-- ==== Sys2Proof/Word.lean ====
section
/-! DEFINITION. The two word types of CORE (R8): every register and memory value is an unsigned 8-bit
or 16-bit number. -/

namespace Sys2Proof

/-- `u8` of the spec: a register half, a memory byte, an opcode byte (R8). -/
abbrev Byte := BitVec 8

/-- `u16` of the spec: SP, PC, a register pair, an address (R8). -/
abbrev Word := BitVec 16

end Sys2Proof
end

