-- ==== Sys2Proof/Syntax.lean ====
section
/-! DEFINITION. The syntax of CORE's instructions: the operand kinds of 30_encoding.md and `Instr`, one
constructor for each of the 512 rows of opcode_table.json (R2, R75, R77, R78). -/

namespace Sys2Proof

/-- The seven 8-bit registers an instruction names (R63); F is never an operand of one (R17). -/
inductive Reg8 where
  | b | c | d | e | h | l | a
deriving DecidableEq, Repr

/-- The 8-bit operand of a 3-bit register field: a register, or the byte at the address in HL (R63). -/
inductive Opnd8 where
  | reg (r : Reg8)
  | atHL
deriving DecidableEq, Repr

/-- The 16-bit registers of the field `pp` (R64). -/
inductive Reg16 where
  | bc | de | hl | sp
deriving DecidableEq, Repr

/-- The register pairs (R18), and the field `qq` of PUSH and POP (R65). -/
inductive Pair where
  | bc | de | hl | af
deriving DecidableEq, Repr

/-- The condition codes (R66, R87). -/
inductive Cond where
  | nz | z | nc | c
deriving DecidableEq, Repr

/-- The eight binary operations on A (R67). -/
inductive AluOp where
  | add | adc | sub | sbc | and | xor | or | cp
deriving DecidableEq, Repr

/-- The eight rotates and shifts of the CB map (R68). -/
inductive RotOp where
  | rlc | rrc | rl | rr | sla | sra | swap | srl
deriving DecidableEq, Repr

/-- The instructions, one constructor for each row of opcode_table.json. In a name, `atHL` stands for
the operand `(HL)`, `atHLInc` for `(HL+)`, `atHLDec` for `(HL-)`, `atBC`, `atDE`, `atC`, `atA8`, `atA16`
for `(BC)`, `(DE)`, `(C)`, `(a8)`, `(a16)`, and `spE8` for `SP+e8`. An argument is an operand byte or
word of the instruction stream (R69 to R72). The base instructions stand first, then the 0xCB byte and the
undefined opcodes, then the CB map. -/
inductive Instr where
  | nop -- 0x00: NOP, R176
  | ld_bc_n16 (n16 : Word) -- 0x01: LD BC,n16, R114
  | ld_atBC_a -- 0x02: LD (BC),A, R106
  | inc_bc -- 0x03: INC BC, R140
  | inc_b -- 0x04: INC B, R131
  | dec_b -- 0x05: DEC B, R133
  | ld_b_n8 (n8 : Byte) -- 0x06: LD B,n8, R96
  | rlca -- 0x07: RLCA, R150
  | ld_atA16_sp (a16 : Word) -- 0x08: LD (a16),SP, R116
  | add_hl_bc -- 0x09: ADD HL,BC, R142
  | ld_a_atBC -- 0x0A: LD A,(BC), R104
  | dec_bc -- 0x0B: DEC BC, R141
  | inc_c -- 0x0C: INC C, R131
  | dec_c -- 0x0D: DEC C, R133
  | ld_c_n8 (n8 : Byte) -- 0x0E: LD C,n8, R96
  | rrca -- 0x0F: RRCA, R151
  | stop (n8 : Byte) -- 0x10: STOP, R178
  | ld_de_n16 (n16 : Word) -- 0x11: LD DE,n16, R114
  | ld_atDE_a -- 0x12: LD (DE),A, R107
  | inc_de -- 0x13: INC DE, R140
  | inc_d -- 0x14: INC D, R131
  | dec_d -- 0x15: DEC D, R133
  | ld_d_n8 (n8 : Byte) -- 0x16: LD D,n8, R96
  | rla -- 0x17: RLA, R152
  | jr_e8 (e8 : Byte) -- 0x18: JR e8, R168
  | add_hl_de -- 0x19: ADD HL,DE, R142
  | ld_a_atDE -- 0x1A: LD A,(DE), R105
  | dec_de -- 0x1B: DEC DE, R141
  | inc_e -- 0x1C: INC E, R131
  | dec_e -- 0x1D: DEC E, R133
  | ld_e_n8 (n8 : Byte) -- 0x1E: LD E,n8, R96
  | rra -- 0x1F: RRA, R153
  | jr_nz_e8 (e8 : Byte) -- 0x20: JR NZ,e8, R169
  | ld_hl_n16 (n16 : Word) -- 0x21: LD HL,n16, R114
  | ld_atHLInc_a -- 0x22: LD (HL+),A, R100
  | inc_hl -- 0x23: INC HL, R140
  | inc_h -- 0x24: INC H, R131
  | dec_h -- 0x25: DEC H, R133
  | ld_h_n8 (n8 : Byte) -- 0x26: LD H,n8, R96
  | daa -- 0x27: DAA, R135
  | jr_z_e8 (e8 : Byte) -- 0x28: JR Z,e8, R169
  | add_hl_hl -- 0x29: ADD HL,HL, R142
  | ld_a_atHLInc -- 0x2A: LD A,(HL+), R101
  | dec_hl -- 0x2B: DEC HL, R141
  | inc_l -- 0x2C: INC L, R131
  | dec_l -- 0x2D: DEC L, R133
  | ld_l_n8 (n8 : Byte) -- 0x2E: LD L,n8, R96
  | cpl -- 0x2F: CPL, R136
  | jr_nc_e8 (e8 : Byte) -- 0x30: JR NC,e8, R169
  | ld_sp_n16 (n16 : Word) -- 0x31: LD SP,n16, R114
  | ld_atHLDec_a -- 0x32: LD (HL-),A, R102
  | inc_sp -- 0x33: INC SP, R140
  | inc_atHL -- 0x34: INC (HL), R132
  | dec_atHL -- 0x35: DEC (HL), R134
  | ld_atHL_n8 (n8 : Byte) -- 0x36: LD (HL),n8, R99
  | scf -- 0x37: SCF, R137
  | jr_c_e8 (e8 : Byte) -- 0x38: JR C,e8, R169
  | add_hl_sp -- 0x39: ADD HL,SP, R142
  | ld_a_atHLDec -- 0x3A: LD A,(HL-), R103
  | dec_sp -- 0x3B: DEC SP, R141
  | inc_a -- 0x3C: INC A, R131
  | dec_a -- 0x3D: DEC A, R133
  | ld_a_n8 (n8 : Byte) -- 0x3E: LD A,n8, R96
  | ccf -- 0x3F: CCF, R138
  | ld_b_b -- 0x40: LD B,B, R95
  | ld_b_c -- 0x41: LD B,C, R95
  | ld_b_d -- 0x42: LD B,D, R95
  | ld_b_e -- 0x43: LD B,E, R95
  | ld_b_h -- 0x44: LD B,H, R95
  | ld_b_l -- 0x45: LD B,L, R95
  | ld_b_atHL -- 0x46: LD B,(HL), R97
  | ld_b_a -- 0x47: LD B,A, R95
  | ld_c_b -- 0x48: LD C,B, R95
  | ld_c_c -- 0x49: LD C,C, R95
  | ld_c_d -- 0x4A: LD C,D, R95
  | ld_c_e -- 0x4B: LD C,E, R95
  | ld_c_h -- 0x4C: LD C,H, R95
  | ld_c_l -- 0x4D: LD C,L, R95
  | ld_c_atHL -- 0x4E: LD C,(HL), R97
  | ld_c_a -- 0x4F: LD C,A, R95
  | ld_d_b -- 0x50: LD D,B, R95
  | ld_d_c -- 0x51: LD D,C, R95
  | ld_d_d -- 0x52: LD D,D, R95
  | ld_d_e -- 0x53: LD D,E, R95
  | ld_d_h -- 0x54: LD D,H, R95
  | ld_d_l -- 0x55: LD D,L, R95
  | ld_d_atHL -- 0x56: LD D,(HL), R97
  | ld_d_a -- 0x57: LD D,A, R95
  | ld_e_b -- 0x58: LD E,B, R95
  | ld_e_c -- 0x59: LD E,C, R95
  | ld_e_d -- 0x5A: LD E,D, R95
  | ld_e_e -- 0x5B: LD E,E, R95
  | ld_e_h -- 0x5C: LD E,H, R95
  | ld_e_l -- 0x5D: LD E,L, R95
  | ld_e_atHL -- 0x5E: LD E,(HL), R97
  | ld_e_a -- 0x5F: LD E,A, R95
  | ld_h_b -- 0x60: LD H,B, R95
  | ld_h_c -- 0x61: LD H,C, R95
  | ld_h_d -- 0x62: LD H,D, R95
  | ld_h_e -- 0x63: LD H,E, R95
  | ld_h_h -- 0x64: LD H,H, R95
  | ld_h_l -- 0x65: LD H,L, R95
  | ld_h_atHL -- 0x66: LD H,(HL), R97
  | ld_h_a -- 0x67: LD H,A, R95
  | ld_l_b -- 0x68: LD L,B, R95
  | ld_l_c -- 0x69: LD L,C, R95
  | ld_l_d -- 0x6A: LD L,D, R95
  | ld_l_e -- 0x6B: LD L,E, R95
  | ld_l_h -- 0x6C: LD L,H, R95
  | ld_l_l -- 0x6D: LD L,L, R95
  | ld_l_atHL -- 0x6E: LD L,(HL), R97
  | ld_l_a -- 0x6F: LD L,A, R95
  | ld_atHL_b -- 0x70: LD (HL),B, R98
  | ld_atHL_c -- 0x71: LD (HL),C, R98
  | ld_atHL_d -- 0x72: LD (HL),D, R98
  | ld_atHL_e -- 0x73: LD (HL),E, R98
  | ld_atHL_h -- 0x74: LD (HL),H, R98
  | ld_atHL_l -- 0x75: LD (HL),L, R98
  | halt -- 0x76: HALT, R177
  | ld_atHL_a -- 0x77: LD (HL),A, R98
  | ld_a_b -- 0x78: LD A,B, R95
  | ld_a_c -- 0x79: LD A,C, R95
  | ld_a_d -- 0x7A: LD A,D, R95
  | ld_a_e -- 0x7B: LD A,E, R95
  | ld_a_h -- 0x7C: LD A,H, R95
  | ld_a_l -- 0x7D: LD A,L, R95
  | ld_a_atHL -- 0x7E: LD A,(HL), R97
  | ld_a_a -- 0x7F: LD A,A, R95
  | add_a_b -- 0x80: ADD A,B, R123
  | add_a_c -- 0x81: ADD A,C, R123
  | add_a_d -- 0x82: ADD A,D, R123
  | add_a_e -- 0x83: ADD A,E, R123
  | add_a_h -- 0x84: ADD A,H, R123
  | add_a_l -- 0x85: ADD A,L, R123
  | add_a_atHL -- 0x86: ADD A,(HL), R123
  | add_a_a -- 0x87: ADD A,A, R123
  | adc_a_b -- 0x88: ADC A,B, R124
  | adc_a_c -- 0x89: ADC A,C, R124
  | adc_a_d -- 0x8A: ADC A,D, R124
  | adc_a_e -- 0x8B: ADC A,E, R124
  | adc_a_h -- 0x8C: ADC A,H, R124
  | adc_a_l -- 0x8D: ADC A,L, R124
  | adc_a_atHL -- 0x8E: ADC A,(HL), R124
  | adc_a_a -- 0x8F: ADC A,A, R124
  | sub_b -- 0x90: SUB B, R125
  | sub_c -- 0x91: SUB C, R125
  | sub_d -- 0x92: SUB D, R125
  | sub_e -- 0x93: SUB E, R125
  | sub_h -- 0x94: SUB H, R125
  | sub_l -- 0x95: SUB L, R125
  | sub_atHL -- 0x96: SUB (HL), R125
  | sub_a -- 0x97: SUB A, R125
  | sbc_a_b -- 0x98: SBC A,B, R126
  | sbc_a_c -- 0x99: SBC A,C, R126
  | sbc_a_d -- 0x9A: SBC A,D, R126
  | sbc_a_e -- 0x9B: SBC A,E, R126
  | sbc_a_h -- 0x9C: SBC A,H, R126
  | sbc_a_l -- 0x9D: SBC A,L, R126
  | sbc_a_atHL -- 0x9E: SBC A,(HL), R126
  | sbc_a_a -- 0x9F: SBC A,A, R126
  | and_b -- 0xA0: AND B, R127
  | and_c -- 0xA1: AND C, R127
  | and_d -- 0xA2: AND D, R127
  | and_e -- 0xA3: AND E, R127
  | and_h -- 0xA4: AND H, R127
  | and_l -- 0xA5: AND L, R127
  | and_atHL -- 0xA6: AND (HL), R127
  | and_a -- 0xA7: AND A, R127
  | xor_b -- 0xA8: XOR B, R128
  | xor_c -- 0xA9: XOR C, R128
  | xor_d -- 0xAA: XOR D, R128
  | xor_e -- 0xAB: XOR E, R128
  | xor_h -- 0xAC: XOR H, R128
  | xor_l -- 0xAD: XOR L, R128
  | xor_atHL -- 0xAE: XOR (HL), R128
  | xor_a -- 0xAF: XOR A, R128
  | or_b -- 0xB0: OR B, R129
  | or_c -- 0xB1: OR C, R129
  | or_d -- 0xB2: OR D, R129
  | or_e -- 0xB3: OR E, R129
  | or_h -- 0xB4: OR H, R129
  | or_l -- 0xB5: OR L, R129
  | or_atHL -- 0xB6: OR (HL), R129
  | or_a -- 0xB7: OR A, R129
  | cp_b -- 0xB8: CP B, R130
  | cp_c -- 0xB9: CP C, R130
  | cp_d -- 0xBA: CP D, R130
  | cp_e -- 0xBB: CP E, R130
  | cp_h -- 0xBC: CP H, R130
  | cp_l -- 0xBD: CP L, R130
  | cp_atHL -- 0xBE: CP (HL), R130
  | cp_a -- 0xBF: CP A, R130
  | ret_nz -- 0xC0: RET NZ, R173
  | pop_bc -- 0xC1: POP BC, R119
  | jp_nz_a16 (a16 : Word) -- 0xC2: JP NZ,a16, R166
  | jp_a16 (a16 : Word) -- 0xC3: JP a16, R165
  | call_nz_a16 (a16 : Word) -- 0xC4: CALL NZ,a16, R171
  | push_bc -- 0xC5: PUSH BC, R118
  | add_a_n8 (n8 : Byte) -- 0xC6: ADD A,n8, R123
  | rst_00h -- 0xC7: RST 00h, R175
  | ret_z -- 0xC8: RET Z, R173
  | ret -- 0xC9: RET, R172
  | jp_z_a16 (a16 : Word) -- 0xCA: JP Z,a16, R166
  | call_z_a16 (a16 : Word) -- 0xCC: CALL Z,a16, R171
  | call_a16 (a16 : Word) -- 0xCD: CALL a16, R170
  | adc_a_n8 (n8 : Byte) -- 0xCE: ADC A,n8, R124
  | rst_08h -- 0xCF: RST 08h, R175
  | ret_nc -- 0xD0: RET NC, R173
  | pop_de -- 0xD1: POP DE, R119
  | jp_nc_a16 (a16 : Word) -- 0xD2: JP NC,a16, R166
  | call_nc_a16 (a16 : Word) -- 0xD4: CALL NC,a16, R171
  | push_de -- 0xD5: PUSH DE, R118
  | sub_n8 (n8 : Byte) -- 0xD6: SUB n8, R125
  | rst_10h -- 0xD7: RST 10h, R175
  | ret_c -- 0xD8: RET C, R173
  | reti -- 0xD9: RETI, R174
  | jp_c_a16 (a16 : Word) -- 0xDA: JP C,a16, R166
  | call_c_a16 (a16 : Word) -- 0xDC: CALL C,a16, R171
  | sbc_a_n8 (n8 : Byte) -- 0xDE: SBC A,n8, R126
  | rst_18h -- 0xDF: RST 18h, R175
  | ldh_atA8_a (a8 : Byte) -- 0xE0: LDH (a8),A, R111
  | pop_hl -- 0xE1: POP HL, R119
  | ld_atC_a -- 0xE2: LD (C),A, R113
  | push_hl -- 0xE5: PUSH HL, R118
  | and_n8 (n8 : Byte) -- 0xE6: AND n8, R127
  | rst_20h -- 0xE7: RST 20h, R175
  | add_sp_e8 (e8 : Byte) -- 0xE8: ADD SP,e8, R144
  | jp_atHL -- 0xE9: JP (HL), R167
  | ld_atA16_a (a16 : Word) -- 0xEA: LD (a16),A, R109
  | xor_n8 (n8 : Byte) -- 0xEE: XOR n8, R128
  | rst_28h -- 0xEF: RST 28h, R175
  | ldh_a_atA8 (a8 : Byte) -- 0xF0: LDH A,(a8), R110
  | pop_af -- 0xF1: POP AF, R120
  | ld_a_atC -- 0xF2: LD A,(C), R112
  | di -- 0xF3: DI, R179
  | push_af -- 0xF5: PUSH AF, R118
  | or_n8 (n8 : Byte) -- 0xF6: OR n8, R129
  | rst_30h -- 0xF7: RST 30h, R175
  | ld_hl_spE8 (e8 : Byte) -- 0xF8: LD HL,SP+e8, R117
  | ld_sp_hl -- 0xF9: LD SP,HL, R115
  | ld_a_atA16 (a16 : Word) -- 0xFA: LD A,(a16), R108
  | ei -- 0xFB: EI, R180
  | cp_n8 (n8 : Byte) -- 0xFE: CP n8, R130
  | rst_38h -- 0xFF: RST 38h, R175
  | prefix_cb -- 0xCB: PREFIX CB, R181
  | undefined_d3 -- 0xD3: undefined opcode 0xD3, R182
  | undefined_db -- 0xDB: undefined opcode 0xDB, R182
  | undefined_dd -- 0xDD: undefined opcode 0xDD, R182
  | undefined_e3 -- 0xE3: undefined opcode 0xE3, R182
  | undefined_e4 -- 0xE4: undefined opcode 0xE4, R182
  | undefined_eb -- 0xEB: undefined opcode 0xEB, R182
  | undefined_ec -- 0xEC: undefined opcode 0xEC, R182
  | undefined_ed -- 0xED: undefined opcode 0xED, R182
  | undefined_f4 -- 0xF4: undefined opcode 0xF4, R182
  | undefined_fc -- 0xFC: undefined opcode 0xFC, R182
  | undefined_fd -- 0xFD: undefined opcode 0xFD, R182
  | rlc_b -- 0xCB 0x00: RLC B, R154
  | rlc_c -- 0xCB 0x01: RLC C, R154
  | rlc_d -- 0xCB 0x02: RLC D, R154
  | rlc_e -- 0xCB 0x03: RLC E, R154
  | rlc_h -- 0xCB 0x04: RLC H, R154
  | rlc_l -- 0xCB 0x05: RLC L, R154
  | rlc_atHL -- 0xCB 0x06: RLC (HL), R154
  | rlc_a -- 0xCB 0x07: RLC A, R154
  | rrc_b -- 0xCB 0x08: RRC B, R155
  | rrc_c -- 0xCB 0x09: RRC C, R155
  | rrc_d -- 0xCB 0x0A: RRC D, R155
  | rrc_e -- 0xCB 0x0B: RRC E, R155
  | rrc_h -- 0xCB 0x0C: RRC H, R155
  | rrc_l -- 0xCB 0x0D: RRC L, R155
  | rrc_atHL -- 0xCB 0x0E: RRC (HL), R155
  | rrc_a -- 0xCB 0x0F: RRC A, R155
  | rl_b -- 0xCB 0x10: RL B, R156
  | rl_c -- 0xCB 0x11: RL C, R156
  | rl_d -- 0xCB 0x12: RL D, R156
  | rl_e -- 0xCB 0x13: RL E, R156
  | rl_h -- 0xCB 0x14: RL H, R156
  | rl_l -- 0xCB 0x15: RL L, R156
  | rl_atHL -- 0xCB 0x16: RL (HL), R156
  | rl_a -- 0xCB 0x17: RL A, R156
  | rr_b -- 0xCB 0x18: RR B, R157
  | rr_c -- 0xCB 0x19: RR C, R157
  | rr_d -- 0xCB 0x1A: RR D, R157
  | rr_e -- 0xCB 0x1B: RR E, R157
  | rr_h -- 0xCB 0x1C: RR H, R157
  | rr_l -- 0xCB 0x1D: RR L, R157
  | rr_atHL -- 0xCB 0x1E: RR (HL), R157
  | rr_a -- 0xCB 0x1F: RR A, R157
  | sla_b -- 0xCB 0x20: SLA B, R158
  | sla_c -- 0xCB 0x21: SLA C, R158
  | sla_d -- 0xCB 0x22: SLA D, R158
  | sla_e -- 0xCB 0x23: SLA E, R158
  | sla_h -- 0xCB 0x24: SLA H, R158
  | sla_l -- 0xCB 0x25: SLA L, R158
  | sla_atHL -- 0xCB 0x26: SLA (HL), R158
  | sla_a -- 0xCB 0x27: SLA A, R158
  | sra_b -- 0xCB 0x28: SRA B, R159
  | sra_c -- 0xCB 0x29: SRA C, R159
  | sra_d -- 0xCB 0x2A: SRA D, R159
  | sra_e -- 0xCB 0x2B: SRA E, R159
  | sra_h -- 0xCB 0x2C: SRA H, R159
  | sra_l -- 0xCB 0x2D: SRA L, R159
  | sra_atHL -- 0xCB 0x2E: SRA (HL), R159
  | sra_a -- 0xCB 0x2F: SRA A, R159
  | swap_b -- 0xCB 0x30: SWAP B, R160
  | swap_c -- 0xCB 0x31: SWAP C, R160
  | swap_d -- 0xCB 0x32: SWAP D, R160
  | swap_e -- 0xCB 0x33: SWAP E, R160
  | swap_h -- 0xCB 0x34: SWAP H, R160
  | swap_l -- 0xCB 0x35: SWAP L, R160
  | swap_atHL -- 0xCB 0x36: SWAP (HL), R160
  | swap_a -- 0xCB 0x37: SWAP A, R160
  | srl_b -- 0xCB 0x38: SRL B, R161
  | srl_c -- 0xCB 0x39: SRL C, R161
  | srl_d -- 0xCB 0x3A: SRL D, R161
  | srl_e -- 0xCB 0x3B: SRL E, R161
  | srl_h -- 0xCB 0x3C: SRL H, R161
  | srl_l -- 0xCB 0x3D: SRL L, R161
  | srl_atHL -- 0xCB 0x3E: SRL (HL), R161
  | srl_a -- 0xCB 0x3F: SRL A, R161
  | bit_0_b -- 0xCB 0x40: BIT 0,B, R162
  | bit_0_c -- 0xCB 0x41: BIT 0,C, R162
  | bit_0_d -- 0xCB 0x42: BIT 0,D, R162
  | bit_0_e -- 0xCB 0x43: BIT 0,E, R162
  | bit_0_h -- 0xCB 0x44: BIT 0,H, R162
  | bit_0_l -- 0xCB 0x45: BIT 0,L, R162
  | bit_0_atHL -- 0xCB 0x46: BIT 0,(HL), R162
  | bit_0_a -- 0xCB 0x47: BIT 0,A, R162
  | bit_1_b -- 0xCB 0x48: BIT 1,B, R162
  | bit_1_c -- 0xCB 0x49: BIT 1,C, R162
  | bit_1_d -- 0xCB 0x4A: BIT 1,D, R162
  | bit_1_e -- 0xCB 0x4B: BIT 1,E, R162
  | bit_1_h -- 0xCB 0x4C: BIT 1,H, R162
  | bit_1_l -- 0xCB 0x4D: BIT 1,L, R162
  | bit_1_atHL -- 0xCB 0x4E: BIT 1,(HL), R162
  | bit_1_a -- 0xCB 0x4F: BIT 1,A, R162
  | bit_2_b -- 0xCB 0x50: BIT 2,B, R162
  | bit_2_c -- 0xCB 0x51: BIT 2,C, R162
  | bit_2_d -- 0xCB 0x52: BIT 2,D, R162
  | bit_2_e -- 0xCB 0x53: BIT 2,E, R162
  | bit_2_h -- 0xCB 0x54: BIT 2,H, R162
  | bit_2_l -- 0xCB 0x55: BIT 2,L, R162
  | bit_2_atHL -- 0xCB 0x56: BIT 2,(HL), R162
  | bit_2_a -- 0xCB 0x57: BIT 2,A, R162
  | bit_3_b -- 0xCB 0x58: BIT 3,B, R162
  | bit_3_c -- 0xCB 0x59: BIT 3,C, R162
  | bit_3_d -- 0xCB 0x5A: BIT 3,D, R162
  | bit_3_e -- 0xCB 0x5B: BIT 3,E, R162
  | bit_3_h -- 0xCB 0x5C: BIT 3,H, R162
  | bit_3_l -- 0xCB 0x5D: BIT 3,L, R162
  | bit_3_atHL -- 0xCB 0x5E: BIT 3,(HL), R162
  | bit_3_a -- 0xCB 0x5F: BIT 3,A, R162
  | bit_4_b -- 0xCB 0x60: BIT 4,B, R162
  | bit_4_c -- 0xCB 0x61: BIT 4,C, R162
  | bit_4_d -- 0xCB 0x62: BIT 4,D, R162
  | bit_4_e -- 0xCB 0x63: BIT 4,E, R162
  | bit_4_h -- 0xCB 0x64: BIT 4,H, R162
  | bit_4_l -- 0xCB 0x65: BIT 4,L, R162
  | bit_4_atHL -- 0xCB 0x66: BIT 4,(HL), R162
  | bit_4_a -- 0xCB 0x67: BIT 4,A, R162
  | bit_5_b -- 0xCB 0x68: BIT 5,B, R162
  | bit_5_c -- 0xCB 0x69: BIT 5,C, R162
  | bit_5_d -- 0xCB 0x6A: BIT 5,D, R162
  | bit_5_e -- 0xCB 0x6B: BIT 5,E, R162
  | bit_5_h -- 0xCB 0x6C: BIT 5,H, R162
  | bit_5_l -- 0xCB 0x6D: BIT 5,L, R162
  | bit_5_atHL -- 0xCB 0x6E: BIT 5,(HL), R162
  | bit_5_a -- 0xCB 0x6F: BIT 5,A, R162
  | bit_6_b -- 0xCB 0x70: BIT 6,B, R162
  | bit_6_c -- 0xCB 0x71: BIT 6,C, R162
  | bit_6_d -- 0xCB 0x72: BIT 6,D, R162
  | bit_6_e -- 0xCB 0x73: BIT 6,E, R162
  | bit_6_h -- 0xCB 0x74: BIT 6,H, R162
  | bit_6_l -- 0xCB 0x75: BIT 6,L, R162
  | bit_6_atHL -- 0xCB 0x76: BIT 6,(HL), R162
  | bit_6_a -- 0xCB 0x77: BIT 6,A, R162
  | bit_7_b -- 0xCB 0x78: BIT 7,B, R162
  | bit_7_c -- 0xCB 0x79: BIT 7,C, R162
  | bit_7_d -- 0xCB 0x7A: BIT 7,D, R162
  | bit_7_e -- 0xCB 0x7B: BIT 7,E, R162
  | bit_7_h -- 0xCB 0x7C: BIT 7,H, R162
  | bit_7_l -- 0xCB 0x7D: BIT 7,L, R162
  | bit_7_atHL -- 0xCB 0x7E: BIT 7,(HL), R162
  | bit_7_a -- 0xCB 0x7F: BIT 7,A, R162
  | res_0_b -- 0xCB 0x80: RES 0,B, R163
  | res_0_c -- 0xCB 0x81: RES 0,C, R163
  | res_0_d -- 0xCB 0x82: RES 0,D, R163
  | res_0_e -- 0xCB 0x83: RES 0,E, R163
  | res_0_h -- 0xCB 0x84: RES 0,H, R163
  | res_0_l -- 0xCB 0x85: RES 0,L, R163
  | res_0_atHL -- 0xCB 0x86: RES 0,(HL), R163
  | res_0_a -- 0xCB 0x87: RES 0,A, R163
  | res_1_b -- 0xCB 0x88: RES 1,B, R163
  | res_1_c -- 0xCB 0x89: RES 1,C, R163
  | res_1_d -- 0xCB 0x8A: RES 1,D, R163
  | res_1_e -- 0xCB 0x8B: RES 1,E, R163
  | res_1_h -- 0xCB 0x8C: RES 1,H, R163
  | res_1_l -- 0xCB 0x8D: RES 1,L, R163
  | res_1_atHL -- 0xCB 0x8E: RES 1,(HL), R163
  | res_1_a -- 0xCB 0x8F: RES 1,A, R163
  | res_2_b -- 0xCB 0x90: RES 2,B, R163
  | res_2_c -- 0xCB 0x91: RES 2,C, R163
  | res_2_d -- 0xCB 0x92: RES 2,D, R163
  | res_2_e -- 0xCB 0x93: RES 2,E, R163
  | res_2_h -- 0xCB 0x94: RES 2,H, R163
  | res_2_l -- 0xCB 0x95: RES 2,L, R163
  | res_2_atHL -- 0xCB 0x96: RES 2,(HL), R163
  | res_2_a -- 0xCB 0x97: RES 2,A, R163
  | res_3_b -- 0xCB 0x98: RES 3,B, R163
  | res_3_c -- 0xCB 0x99: RES 3,C, R163
  | res_3_d -- 0xCB 0x9A: RES 3,D, R163
  | res_3_e -- 0xCB 0x9B: RES 3,E, R163
  | res_3_h -- 0xCB 0x9C: RES 3,H, R163
  | res_3_l -- 0xCB 0x9D: RES 3,L, R163
  | res_3_atHL -- 0xCB 0x9E: RES 3,(HL), R163
  | res_3_a -- 0xCB 0x9F: RES 3,A, R163
  | res_4_b -- 0xCB 0xA0: RES 4,B, R163
  | res_4_c -- 0xCB 0xA1: RES 4,C, R163
  | res_4_d -- 0xCB 0xA2: RES 4,D, R163
  | res_4_e -- 0xCB 0xA3: RES 4,E, R163
  | res_4_h -- 0xCB 0xA4: RES 4,H, R163
  | res_4_l -- 0xCB 0xA5: RES 4,L, R163
  | res_4_atHL -- 0xCB 0xA6: RES 4,(HL), R163
  | res_4_a -- 0xCB 0xA7: RES 4,A, R163
  | res_5_b -- 0xCB 0xA8: RES 5,B, R163
  | res_5_c -- 0xCB 0xA9: RES 5,C, R163
  | res_5_d -- 0xCB 0xAA: RES 5,D, R163
  | res_5_e -- 0xCB 0xAB: RES 5,E, R163
  | res_5_h -- 0xCB 0xAC: RES 5,H, R163
  | res_5_l -- 0xCB 0xAD: RES 5,L, R163
  | res_5_atHL -- 0xCB 0xAE: RES 5,(HL), R163
  | res_5_a -- 0xCB 0xAF: RES 5,A, R163
  | res_6_b -- 0xCB 0xB0: RES 6,B, R163
  | res_6_c -- 0xCB 0xB1: RES 6,C, R163
  | res_6_d -- 0xCB 0xB2: RES 6,D, R163
  | res_6_e -- 0xCB 0xB3: RES 6,E, R163
  | res_6_h -- 0xCB 0xB4: RES 6,H, R163
  | res_6_l -- 0xCB 0xB5: RES 6,L, R163
  | res_6_atHL -- 0xCB 0xB6: RES 6,(HL), R163
  | res_6_a -- 0xCB 0xB7: RES 6,A, R163
  | res_7_b -- 0xCB 0xB8: RES 7,B, R163
  | res_7_c -- 0xCB 0xB9: RES 7,C, R163
  | res_7_d -- 0xCB 0xBA: RES 7,D, R163
  | res_7_e -- 0xCB 0xBB: RES 7,E, R163
  | res_7_h -- 0xCB 0xBC: RES 7,H, R163
  | res_7_l -- 0xCB 0xBD: RES 7,L, R163
  | res_7_atHL -- 0xCB 0xBE: RES 7,(HL), R163
  | res_7_a -- 0xCB 0xBF: RES 7,A, R163
  | set_0_b -- 0xCB 0xC0: SET 0,B, R164
  | set_0_c -- 0xCB 0xC1: SET 0,C, R164
  | set_0_d -- 0xCB 0xC2: SET 0,D, R164
  | set_0_e -- 0xCB 0xC3: SET 0,E, R164
  | set_0_h -- 0xCB 0xC4: SET 0,H, R164
  | set_0_l -- 0xCB 0xC5: SET 0,L, R164
  | set_0_atHL -- 0xCB 0xC6: SET 0,(HL), R164
  | set_0_a -- 0xCB 0xC7: SET 0,A, R164
  | set_1_b -- 0xCB 0xC8: SET 1,B, R164
  | set_1_c -- 0xCB 0xC9: SET 1,C, R164
  | set_1_d -- 0xCB 0xCA: SET 1,D, R164
  | set_1_e -- 0xCB 0xCB: SET 1,E, R164
  | set_1_h -- 0xCB 0xCC: SET 1,H, R164
  | set_1_l -- 0xCB 0xCD: SET 1,L, R164
  | set_1_atHL -- 0xCB 0xCE: SET 1,(HL), R164
  | set_1_a -- 0xCB 0xCF: SET 1,A, R164
  | set_2_b -- 0xCB 0xD0: SET 2,B, R164
  | set_2_c -- 0xCB 0xD1: SET 2,C, R164
  | set_2_d -- 0xCB 0xD2: SET 2,D, R164
  | set_2_e -- 0xCB 0xD3: SET 2,E, R164
  | set_2_h -- 0xCB 0xD4: SET 2,H, R164
  | set_2_l -- 0xCB 0xD5: SET 2,L, R164
  | set_2_atHL -- 0xCB 0xD6: SET 2,(HL), R164
  | set_2_a -- 0xCB 0xD7: SET 2,A, R164
  | set_3_b -- 0xCB 0xD8: SET 3,B, R164
  | set_3_c -- 0xCB 0xD9: SET 3,C, R164
  | set_3_d -- 0xCB 0xDA: SET 3,D, R164
  | set_3_e -- 0xCB 0xDB: SET 3,E, R164
  | set_3_h -- 0xCB 0xDC: SET 3,H, R164
  | set_3_l -- 0xCB 0xDD: SET 3,L, R164
  | set_3_atHL -- 0xCB 0xDE: SET 3,(HL), R164
  | set_3_a -- 0xCB 0xDF: SET 3,A, R164
  | set_4_b -- 0xCB 0xE0: SET 4,B, R164
  | set_4_c -- 0xCB 0xE1: SET 4,C, R164
  | set_4_d -- 0xCB 0xE2: SET 4,D, R164
  | set_4_e -- 0xCB 0xE3: SET 4,E, R164
  | set_4_h -- 0xCB 0xE4: SET 4,H, R164
  | set_4_l -- 0xCB 0xE5: SET 4,L, R164
  | set_4_atHL -- 0xCB 0xE6: SET 4,(HL), R164
  | set_4_a -- 0xCB 0xE7: SET 4,A, R164
  | set_5_b -- 0xCB 0xE8: SET 5,B, R164
  | set_5_c -- 0xCB 0xE9: SET 5,C, R164
  | set_5_d -- 0xCB 0xEA: SET 5,D, R164
  | set_5_e -- 0xCB 0xEB: SET 5,E, R164
  | set_5_h -- 0xCB 0xEC: SET 5,H, R164
  | set_5_l -- 0xCB 0xED: SET 5,L, R164
  | set_5_atHL -- 0xCB 0xEE: SET 5,(HL), R164
  | set_5_a -- 0xCB 0xEF: SET 5,A, R164
  | set_6_b -- 0xCB 0xF0: SET 6,B, R164
  | set_6_c -- 0xCB 0xF1: SET 6,C, R164
  | set_6_d -- 0xCB 0xF2: SET 6,D, R164
  | set_6_e -- 0xCB 0xF3: SET 6,E, R164
  | set_6_h -- 0xCB 0xF4: SET 6,H, R164
  | set_6_l -- 0xCB 0xF5: SET 6,L, R164
  | set_6_atHL -- 0xCB 0xF6: SET 6,(HL), R164
  | set_6_a -- 0xCB 0xF7: SET 6,A, R164
  | set_7_b -- 0xCB 0xF8: SET 7,B, R164
  | set_7_c -- 0xCB 0xF9: SET 7,C, R164
  | set_7_d -- 0xCB 0xFA: SET 7,D, R164
  | set_7_e -- 0xCB 0xFB: SET 7,E, R164
  | set_7_h -- 0xCB 0xFC: SET 7,H, R164
  | set_7_l -- 0xCB 0xFD: SET 7,L, R164
  | set_7_atHL -- 0xCB 0xFE: SET 7,(HL), R164
  | set_7_a -- 0xCB 0xFF: SET 7,A, R164
deriving DecidableEq, Repr

end Sys2Proof
end

