-- ==== Sys2Proof/Decode.lean ====
section
/-! DEFINITION. The decoder, total on any bytes and written from the fields x, y, z, p, q of R62 and the
cases of R75 and R77, then the encoder, written from the rows of opcode_table.json (the map of R76).
A list of bytes is refused only by name, when it ends before the instruction does. -/

namespace Sys2Proof

/-! ## Bytes and words -/

/-- `concat(hi, lo)`, the 16-bit value with these halves (R7). -/
def concat (hi lo : Byte) : Word := hi ++ lo

/-- `v[15:8]` (R7). -/
def hiByte (v : Word) : Byte := v.extractLsb' 8 8

/-- `v[7:0]` (R7). -/
def loByte (v : Word) : Byte := v.extractLsb' 0 8

/-- `zext_16` (R9). -/
def zext16 (v : Byte) : Word := v.zeroExtend 16

/-- `sext_16`: `v` if `v < 0x80`, else `v + 0xFF00` (R9). -/
def sext16 (v : Byte) : Word :=
  if v.toNat < 0x80 then zext16 v else zext16 v + 0xFF00#16

/-! ## Fields of an opcode byte (R62) -/

/-- `x = op[7:6]`. -/
def xField (op : Byte) : Nat := op.toNat / 64

/-- `y = op[5:3]`. -/
def yField (op : Byte) : Nat := op.toNat / 8 % 8

/-- `z = op[2:0]`. -/
def zField (op : Byte) : Nat := op.toNat % 8

/-- `p = op[5:4]`, so that `y = 2 * p + q`. -/
def pField (op : Byte) : Nat := op.toNat / 16 % 4

/-- `q = op[3]`. -/
def qField (op : Byte) : Nat := op.toNat / 8 % 2

/-! ## Operand codes (R63 to R68) -/

/-- The register field `r` (R63); a field value is below 8. -/
def opnd8OfCode (r : Nat) : Opnd8 :=
  match r with
  | 0 => .reg .b
  | 1 => .reg .c
  | 2 => .reg .d
  | 3 => .reg .e
  | 4 => .reg .h
  | 5 => .reg .l
  | 6 => .atHL
  | _ => .reg .a

/-- The pair field `pp` (R64); a field value is below 4. -/
def reg16OfCode (p : Nat) : Reg16 :=
  match p with
  | 0 => .bc
  | 1 => .de
  | 2 => .hl
  | _ => .sp

/-- The pair field `qq` (R65); a field value is below 4. -/
def pairOfCode (p : Nat) : Pair :=
  match p with
  | 0 => .bc
  | 1 => .de
  | 2 => .hl
  | _ => .af

/-- The condition field `cc` (R66); a field value is below 4. -/
def condOfCode (cc : Nat) : Cond :=
  match cc with
  | 0 => .nz
  | 1 => .z
  | 2 => .nc
  | _ => .c

/-- The ALU field (R67); a field value is below 8. -/
def aluOfCode (y : Nat) : AluOp :=
  match y with
  | 0 => .add
  | 1 => .adc
  | 2 => .sub
  | 3 => .sbc
  | 4 => .and
  | 5 => .xor
  | 6 => .or
  | _ => .cp

/-- The rotate and shift field of the CB map (R68); a field value is below 8. -/
def rotOfCode (y : Nat) : RotOp :=
  match y with
  | 0 => .rlc
  | 1 => .rrc
  | 2 => .rl
  | 3 => .rr
  | 4 => .sla
  | 5 => .sra
  | 6 => .swap
  | _ => .srl

/-! ## The families: the constructor that stands for an operation and its operands

R75 and R77 give one rule for a family of opcodes; each function below names the family's constructor for
the operands of that rule. -/

/-- `LD r,r'` (R95). -/
def Instr.ldRegReg (dst : Reg8) (r : Reg8) : Instr :=
  match dst, r with
  | .b, .b => .ld_b_b
  | .b, .c => .ld_b_c
  | .b, .d => .ld_b_d
  | .b, .e => .ld_b_e
  | .b, .h => .ld_b_h
  | .b, .l => .ld_b_l
  | .b, .a => .ld_b_a
  | .c, .b => .ld_c_b
  | .c, .c => .ld_c_c
  | .c, .d => .ld_c_d
  | .c, .e => .ld_c_e
  | .c, .h => .ld_c_h
  | .c, .l => .ld_c_l
  | .c, .a => .ld_c_a
  | .d, .b => .ld_d_b
  | .d, .c => .ld_d_c
  | .d, .d => .ld_d_d
  | .d, .e => .ld_d_e
  | .d, .h => .ld_d_h
  | .d, .l => .ld_d_l
  | .d, .a => .ld_d_a
  | .e, .b => .ld_e_b
  | .e, .c => .ld_e_c
  | .e, .d => .ld_e_d
  | .e, .e => .ld_e_e
  | .e, .h => .ld_e_h
  | .e, .l => .ld_e_l
  | .e, .a => .ld_e_a
  | .h, .b => .ld_h_b
  | .h, .c => .ld_h_c
  | .h, .d => .ld_h_d
  | .h, .e => .ld_h_e
  | .h, .h => .ld_h_h
  | .h, .l => .ld_h_l
  | .h, .a => .ld_h_a
  | .l, .b => .ld_l_b
  | .l, .c => .ld_l_c
  | .l, .d => .ld_l_d
  | .l, .e => .ld_l_e
  | .l, .h => .ld_l_h
  | .l, .l => .ld_l_l
  | .l, .a => .ld_l_a
  | .a, .b => .ld_a_b
  | .a, .c => .ld_a_c
  | .a, .d => .ld_a_d
  | .a, .e => .ld_a_e
  | .a, .h => .ld_a_h
  | .a, .l => .ld_a_l
  | .a, .a => .ld_a_a

/-- `LD r,n8` (R96). -/
def Instr.ldRegImm (dst : Reg8) (n8 : Byte) : Instr :=
  match dst with
  | .b => .ld_b_n8 n8
  | .c => .ld_c_n8 n8
  | .d => .ld_d_n8 n8
  | .e => .ld_e_n8 n8
  | .h => .ld_h_n8 n8
  | .l => .ld_l_n8 n8
  | .a => .ld_a_n8 n8

/-- `LD r,(HL)` (R97). -/
def Instr.ldRegAtHL (dst : Reg8) : Instr :=
  match dst with
  | .b => .ld_b_atHL
  | .c => .ld_c_atHL
  | .d => .ld_d_atHL
  | .e => .ld_e_atHL
  | .h => .ld_h_atHL
  | .l => .ld_l_atHL
  | .a => .ld_a_atHL

/-- `LD (HL),r` (R98). -/
def Instr.ldAtHLReg (r : Reg8) : Instr :=
  match r with
  | .b => .ld_atHL_b
  | .c => .ld_atHL_c
  | .d => .ld_atHL_d
  | .e => .ld_atHL_e
  | .h => .ld_atHL_h
  | .l => .ld_atHL_l
  | .a => .ld_atHL_a

/-- `LD pp,n16` (R114). -/
def Instr.ldReg16Imm (p : Reg16) (n16 : Word) : Instr :=
  match p with
  | .bc => .ld_bc_n16 n16
  | .de => .ld_de_n16 n16
  | .hl => .ld_hl_n16 n16
  | .sp => .ld_sp_n16 n16

/-- `INC pp` (R140). -/
def Instr.incReg16 (p : Reg16) : Instr :=
  match p with
  | .bc => .inc_bc
  | .de => .inc_de
  | .hl => .inc_hl
  | .sp => .inc_sp

/-- `DEC pp` (R141). -/
def Instr.decReg16 (p : Reg16) : Instr :=
  match p with
  | .bc => .dec_bc
  | .de => .dec_de
  | .hl => .dec_hl
  | .sp => .dec_sp

/-- `ADD HL,pp` (R142). -/
def Instr.addHL (p : Reg16) : Instr :=
  match p with
  | .bc => .add_hl_bc
  | .de => .add_hl_de
  | .hl => .add_hl_hl
  | .sp => .add_hl_sp

/-- `PUSH qq` (R118). -/
def Instr.push (q : Pair) : Instr :=
  match q with
  | .bc => .push_bc
  | .de => .push_de
  | .hl => .push_hl
  | .af => .push_af

/-- `POP qq` (R119, R120). -/
def Instr.pop (q : Pair) : Instr :=
  match q with
  | .bc => .pop_bc
  | .de => .pop_de
  | .hl => .pop_hl
  | .af => .pop_af

/-- `INC r` and `INC (HL)` (R131, R132). -/
def Instr.inc8 (o : Opnd8) : Instr :=
  match o with
  | .reg .b => .inc_b
  | .reg .c => .inc_c
  | .reg .d => .inc_d
  | .reg .e => .inc_e
  | .reg .h => .inc_h
  | .reg .l => .inc_l
  | .atHL => .inc_atHL
  | .reg .a => .inc_a

/-- `DEC r` and `DEC (HL)` (R133, R134). -/
def Instr.dec8 (o : Opnd8) : Instr :=
  match o with
  | .reg .b => .dec_b
  | .reg .c => .dec_c
  | .reg .d => .dec_d
  | .reg .e => .dec_e
  | .reg .h => .dec_h
  | .reg .l => .dec_l
  | .atHL => .dec_atHL
  | .reg .a => .dec_a

/-- The binary operations on A with a register or `(HL)` (R122, R123 to R130). -/
def Instr.alu (op : AluOp) (o : Opnd8) : Instr :=
  match op, o with
  | .add, .reg .b => .add_a_b
  | .add, .reg .c => .add_a_c
  | .add, .reg .d => .add_a_d
  | .add, .reg .e => .add_a_e
  | .add, .reg .h => .add_a_h
  | .add, .reg .l => .add_a_l
  | .add, .atHL => .add_a_atHL
  | .add, .reg .a => .add_a_a
  | .adc, .reg .b => .adc_a_b
  | .adc, .reg .c => .adc_a_c
  | .adc, .reg .d => .adc_a_d
  | .adc, .reg .e => .adc_a_e
  | .adc, .reg .h => .adc_a_h
  | .adc, .reg .l => .adc_a_l
  | .adc, .atHL => .adc_a_atHL
  | .adc, .reg .a => .adc_a_a
  | .sub, .reg .b => .sub_b
  | .sub, .reg .c => .sub_c
  | .sub, .reg .d => .sub_d
  | .sub, .reg .e => .sub_e
  | .sub, .reg .h => .sub_h
  | .sub, .reg .l => .sub_l
  | .sub, .atHL => .sub_atHL
  | .sub, .reg .a => .sub_a
  | .sbc, .reg .b => .sbc_a_b
  | .sbc, .reg .c => .sbc_a_c
  | .sbc, .reg .d => .sbc_a_d
  | .sbc, .reg .e => .sbc_a_e
  | .sbc, .reg .h => .sbc_a_h
  | .sbc, .reg .l => .sbc_a_l
  | .sbc, .atHL => .sbc_a_atHL
  | .sbc, .reg .a => .sbc_a_a
  | .and, .reg .b => .and_b
  | .and, .reg .c => .and_c
  | .and, .reg .d => .and_d
  | .and, .reg .e => .and_e
  | .and, .reg .h => .and_h
  | .and, .reg .l => .and_l
  | .and, .atHL => .and_atHL
  | .and, .reg .a => .and_a
  | .xor, .reg .b => .xor_b
  | .xor, .reg .c => .xor_c
  | .xor, .reg .d => .xor_d
  | .xor, .reg .e => .xor_e
  | .xor, .reg .h => .xor_h
  | .xor, .reg .l => .xor_l
  | .xor, .atHL => .xor_atHL
  | .xor, .reg .a => .xor_a
  | .or, .reg .b => .or_b
  | .or, .reg .c => .or_c
  | .or, .reg .d => .or_d
  | .or, .reg .e => .or_e
  | .or, .reg .h => .or_h
  | .or, .reg .l => .or_l
  | .or, .atHL => .or_atHL
  | .or, .reg .a => .or_a
  | .cp, .reg .b => .cp_b
  | .cp, .reg .c => .cp_c
  | .cp, .reg .d => .cp_d
  | .cp, .reg .e => .cp_e
  | .cp, .reg .h => .cp_h
  | .cp, .reg .l => .cp_l
  | .cp, .atHL => .cp_atHL
  | .cp, .reg .a => .cp_a

/-- The binary operations on A with an immediate byte (R122, R123 to R130). -/
def Instr.aluImm (op : AluOp) (n8 : Byte) : Instr :=
  match op with
  | .add => .add_a_n8 n8
  | .adc => .adc_a_n8 n8
  | .sub => .sub_n8 n8
  | .sbc => .sbc_a_n8 n8
  | .and => .and_n8 n8
  | .xor => .xor_n8 n8
  | .or => .or_n8 n8
  | .cp => .cp_n8 n8

/-- `JP cc,a16` (R166). -/
def Instr.jpCond (cc : Cond) (a16 : Word) : Instr :=
  match cc with
  | .nz => .jp_nz_a16 a16
  | .z => .jp_z_a16 a16
  | .nc => .jp_nc_a16 a16
  | .c => .jp_c_a16 a16

/-- `JR cc,e8` (R169). -/
def Instr.jrCond (cc : Cond) (e8 : Byte) : Instr :=
  match cc with
  | .nz => .jr_nz_e8 e8
  | .z => .jr_z_e8 e8
  | .nc => .jr_nc_e8 e8
  | .c => .jr_c_e8 e8

/-- `CALL cc,a16` (R171). -/
def Instr.callCond (cc : Cond) (a16 : Word) : Instr :=
  match cc with
  | .nz => .call_nz_a16 a16
  | .z => .call_z_a16 a16
  | .nc => .call_nc_a16 a16
  | .c => .call_c_a16 a16

/-- `RET cc` (R173). -/
def Instr.retCond (cc : Cond) : Instr :=
  match cc with
  | .nz => .ret_nz
  | .z => .ret_z
  | .nc => .ret_nc
  | .c => .ret_c

/-- `RST t` with t = 8 * y (R73, R175). -/
def Instr.rst (y : Fin 8) : Instr :=
  match y with
  | 0 => .rst_00h
  | 1 => .rst_08h
  | 2 => .rst_10h
  | 3 => .rst_18h
  | 4 => .rst_20h
  | 5 => .rst_28h
  | 6 => .rst_30h
  | 7 => .rst_38h

/-- The rotates and shifts of the CB map (R77, R154 to R161). -/
def Instr.rot (op : RotOp) (o : Opnd8) : Instr :=
  match op, o with
  | .rlc, .reg .b => .rlc_b
  | .rlc, .reg .c => .rlc_c
  | .rlc, .reg .d => .rlc_d
  | .rlc, .reg .e => .rlc_e
  | .rlc, .reg .h => .rlc_h
  | .rlc, .reg .l => .rlc_l
  | .rlc, .atHL => .rlc_atHL
  | .rlc, .reg .a => .rlc_a
  | .rrc, .reg .b => .rrc_b
  | .rrc, .reg .c => .rrc_c
  | .rrc, .reg .d => .rrc_d
  | .rrc, .reg .e => .rrc_e
  | .rrc, .reg .h => .rrc_h
  | .rrc, .reg .l => .rrc_l
  | .rrc, .atHL => .rrc_atHL
  | .rrc, .reg .a => .rrc_a
  | .rl, .reg .b => .rl_b
  | .rl, .reg .c => .rl_c
  | .rl, .reg .d => .rl_d
  | .rl, .reg .e => .rl_e
  | .rl, .reg .h => .rl_h
  | .rl, .reg .l => .rl_l
  | .rl, .atHL => .rl_atHL
  | .rl, .reg .a => .rl_a
  | .rr, .reg .b => .rr_b
  | .rr, .reg .c => .rr_c
  | .rr, .reg .d => .rr_d
  | .rr, .reg .e => .rr_e
  | .rr, .reg .h => .rr_h
  | .rr, .reg .l => .rr_l
  | .rr, .atHL => .rr_atHL
  | .rr, .reg .a => .rr_a
  | .sla, .reg .b => .sla_b
  | .sla, .reg .c => .sla_c
  | .sla, .reg .d => .sla_d
  | .sla, .reg .e => .sla_e
  | .sla, .reg .h => .sla_h
  | .sla, .reg .l => .sla_l
  | .sla, .atHL => .sla_atHL
  | .sla, .reg .a => .sla_a
  | .sra, .reg .b => .sra_b
  | .sra, .reg .c => .sra_c
  | .sra, .reg .d => .sra_d
  | .sra, .reg .e => .sra_e
  | .sra, .reg .h => .sra_h
  | .sra, .reg .l => .sra_l
  | .sra, .atHL => .sra_atHL
  | .sra, .reg .a => .sra_a
  | .swap, .reg .b => .swap_b
  | .swap, .reg .c => .swap_c
  | .swap, .reg .d => .swap_d
  | .swap, .reg .e => .swap_e
  | .swap, .reg .h => .swap_h
  | .swap, .reg .l => .swap_l
  | .swap, .atHL => .swap_atHL
  | .swap, .reg .a => .swap_a
  | .srl, .reg .b => .srl_b
  | .srl, .reg .c => .srl_c
  | .srl, .reg .d => .srl_d
  | .srl, .reg .e => .srl_e
  | .srl, .reg .h => .srl_h
  | .srl, .reg .l => .srl_l
  | .srl, .atHL => .srl_atHL
  | .srl, .reg .a => .srl_a

/-- `BIT b,r` (R77, R162). -/
def Instr.bit (b : Fin 8) (o : Opnd8) : Instr :=
  match b, o with
  | 0, .reg .b => .bit_0_b
  | 0, .reg .c => .bit_0_c
  | 0, .reg .d => .bit_0_d
  | 0, .reg .e => .bit_0_e
  | 0, .reg .h => .bit_0_h
  | 0, .reg .l => .bit_0_l
  | 0, .atHL => .bit_0_atHL
  | 0, .reg .a => .bit_0_a
  | 1, .reg .b => .bit_1_b
  | 1, .reg .c => .bit_1_c
  | 1, .reg .d => .bit_1_d
  | 1, .reg .e => .bit_1_e
  | 1, .reg .h => .bit_1_h
  | 1, .reg .l => .bit_1_l
  | 1, .atHL => .bit_1_atHL
  | 1, .reg .a => .bit_1_a
  | 2, .reg .b => .bit_2_b
  | 2, .reg .c => .bit_2_c
  | 2, .reg .d => .bit_2_d
  | 2, .reg .e => .bit_2_e
  | 2, .reg .h => .bit_2_h
  | 2, .reg .l => .bit_2_l
  | 2, .atHL => .bit_2_atHL
  | 2, .reg .a => .bit_2_a
  | 3, .reg .b => .bit_3_b
  | 3, .reg .c => .bit_3_c
  | 3, .reg .d => .bit_3_d
  | 3, .reg .e => .bit_3_e
  | 3, .reg .h => .bit_3_h
  | 3, .reg .l => .bit_3_l
  | 3, .atHL => .bit_3_atHL
  | 3, .reg .a => .bit_3_a
  | 4, .reg .b => .bit_4_b
  | 4, .reg .c => .bit_4_c
  | 4, .reg .d => .bit_4_d
  | 4, .reg .e => .bit_4_e
  | 4, .reg .h => .bit_4_h
  | 4, .reg .l => .bit_4_l
  | 4, .atHL => .bit_4_atHL
  | 4, .reg .a => .bit_4_a
  | 5, .reg .b => .bit_5_b
  | 5, .reg .c => .bit_5_c
  | 5, .reg .d => .bit_5_d
  | 5, .reg .e => .bit_5_e
  | 5, .reg .h => .bit_5_h
  | 5, .reg .l => .bit_5_l
  | 5, .atHL => .bit_5_atHL
  | 5, .reg .a => .bit_5_a
  | 6, .reg .b => .bit_6_b
  | 6, .reg .c => .bit_6_c
  | 6, .reg .d => .bit_6_d
  | 6, .reg .e => .bit_6_e
  | 6, .reg .h => .bit_6_h
  | 6, .reg .l => .bit_6_l
  | 6, .atHL => .bit_6_atHL
  | 6, .reg .a => .bit_6_a
  | 7, .reg .b => .bit_7_b
  | 7, .reg .c => .bit_7_c
  | 7, .reg .d => .bit_7_d
  | 7, .reg .e => .bit_7_e
  | 7, .reg .h => .bit_7_h
  | 7, .reg .l => .bit_7_l
  | 7, .atHL => .bit_7_atHL
  | 7, .reg .a => .bit_7_a

/-- `RES b,r` (R77, R163). -/
def Instr.res (b : Fin 8) (o : Opnd8) : Instr :=
  match b, o with
  | 0, .reg .b => .res_0_b
  | 0, .reg .c => .res_0_c
  | 0, .reg .d => .res_0_d
  | 0, .reg .e => .res_0_e
  | 0, .reg .h => .res_0_h
  | 0, .reg .l => .res_0_l
  | 0, .atHL => .res_0_atHL
  | 0, .reg .a => .res_0_a
  | 1, .reg .b => .res_1_b
  | 1, .reg .c => .res_1_c
  | 1, .reg .d => .res_1_d
  | 1, .reg .e => .res_1_e
  | 1, .reg .h => .res_1_h
  | 1, .reg .l => .res_1_l
  | 1, .atHL => .res_1_atHL
  | 1, .reg .a => .res_1_a
  | 2, .reg .b => .res_2_b
  | 2, .reg .c => .res_2_c
  | 2, .reg .d => .res_2_d
  | 2, .reg .e => .res_2_e
  | 2, .reg .h => .res_2_h
  | 2, .reg .l => .res_2_l
  | 2, .atHL => .res_2_atHL
  | 2, .reg .a => .res_2_a
  | 3, .reg .b => .res_3_b
  | 3, .reg .c => .res_3_c
  | 3, .reg .d => .res_3_d
  | 3, .reg .e => .res_3_e
  | 3, .reg .h => .res_3_h
  | 3, .reg .l => .res_3_l
  | 3, .atHL => .res_3_atHL
  | 3, .reg .a => .res_3_a
  | 4, .reg .b => .res_4_b
  | 4, .reg .c => .res_4_c
  | 4, .reg .d => .res_4_d
  | 4, .reg .e => .res_4_e
  | 4, .reg .h => .res_4_h
  | 4, .reg .l => .res_4_l
  | 4, .atHL => .res_4_atHL
  | 4, .reg .a => .res_4_a
  | 5, .reg .b => .res_5_b
  | 5, .reg .c => .res_5_c
  | 5, .reg .d => .res_5_d
  | 5, .reg .e => .res_5_e
  | 5, .reg .h => .res_5_h
  | 5, .reg .l => .res_5_l
  | 5, .atHL => .res_5_atHL
  | 5, .reg .a => .res_5_a
  | 6, .reg .b => .res_6_b
  | 6, .reg .c => .res_6_c
  | 6, .reg .d => .res_6_d
  | 6, .reg .e => .res_6_e
  | 6, .reg .h => .res_6_h
  | 6, .reg .l => .res_6_l
  | 6, .atHL => .res_6_atHL
  | 6, .reg .a => .res_6_a
  | 7, .reg .b => .res_7_b
  | 7, .reg .c => .res_7_c
  | 7, .reg .d => .res_7_d
  | 7, .reg .e => .res_7_e
  | 7, .reg .h => .res_7_h
  | 7, .reg .l => .res_7_l
  | 7, .atHL => .res_7_atHL
  | 7, .reg .a => .res_7_a

/-- `SET b,r` (R77, R164). -/
def Instr.set (b : Fin 8) (o : Opnd8) : Instr :=
  match b, o with
  | 0, .reg .b => .set_0_b
  | 0, .reg .c => .set_0_c
  | 0, .reg .d => .set_0_d
  | 0, .reg .e => .set_0_e
  | 0, .reg .h => .set_0_h
  | 0, .reg .l => .set_0_l
  | 0, .atHL => .set_0_atHL
  | 0, .reg .a => .set_0_a
  | 1, .reg .b => .set_1_b
  | 1, .reg .c => .set_1_c
  | 1, .reg .d => .set_1_d
  | 1, .reg .e => .set_1_e
  | 1, .reg .h => .set_1_h
  | 1, .reg .l => .set_1_l
  | 1, .atHL => .set_1_atHL
  | 1, .reg .a => .set_1_a
  | 2, .reg .b => .set_2_b
  | 2, .reg .c => .set_2_c
  | 2, .reg .d => .set_2_d
  | 2, .reg .e => .set_2_e
  | 2, .reg .h => .set_2_h
  | 2, .reg .l => .set_2_l
  | 2, .atHL => .set_2_atHL
  | 2, .reg .a => .set_2_a
  | 3, .reg .b => .set_3_b
  | 3, .reg .c => .set_3_c
  | 3, .reg .d => .set_3_d
  | 3, .reg .e => .set_3_e
  | 3, .reg .h => .set_3_h
  | 3, .reg .l => .set_3_l
  | 3, .atHL => .set_3_atHL
  | 3, .reg .a => .set_3_a
  | 4, .reg .b => .set_4_b
  | 4, .reg .c => .set_4_c
  | 4, .reg .d => .set_4_d
  | 4, .reg .e => .set_4_e
  | 4, .reg .h => .set_4_h
  | 4, .reg .l => .set_4_l
  | 4, .atHL => .set_4_atHL
  | 4, .reg .a => .set_4_a
  | 5, .reg .b => .set_5_b
  | 5, .reg .c => .set_5_c
  | 5, .reg .d => .set_5_d
  | 5, .reg .e => .set_5_e
  | 5, .reg .h => .set_5_h
  | 5, .reg .l => .set_5_l
  | 5, .atHL => .set_5_atHL
  | 5, .reg .a => .set_5_a
  | 6, .reg .b => .set_6_b
  | 6, .reg .c => .set_6_c
  | 6, .reg .d => .set_6_d
  | 6, .reg .e => .set_6_e
  | 6, .reg .h => .set_6_h
  | 6, .reg .l => .set_6_l
  | 6, .atHL => .set_6_atHL
  | 6, .reg .a => .set_6_a
  | 7, .reg .b => .set_7_b
  | 7, .reg .c => .set_7_c
  | 7, .reg .d => .set_7_d
  | 7, .reg .e => .set_7_e
  | 7, .reg .h => .set_7_h
  | 7, .reg .l => .set_7_l
  | 7, .atHL => .set_7_atHL
  | 7, .reg .a => .set_7_a

/-! ## Decode (R75, R77) -/

/-- The opcodes 0x00 to 0x3F (R75, x = 0), from the fields of the opcode byte and the operand bytes. -/
def decodeX0 (y z p q : Nat) (n8 : Byte) (n16 : Word) : Instr :=
  match z with
  | 0 =>
    match y with
    | 0 => .nop
    | 1 => .ld_atA16_sp n16
    | 2 => .stop n8
    | 3 => .jr_e8 n8
    | _ => Instr.jrCond (condOfCode (y - 4)) n8
  | 1 => if q = 0 then Instr.ldReg16Imm (reg16OfCode p) n16 else Instr.addHL (reg16OfCode p)
  | 2 =>
    match y with
    | 0 => .ld_atBC_a
    | 1 => .ld_a_atBC
    | 2 => .ld_atDE_a
    | 3 => .ld_a_atDE
    | 4 => .ld_atHLInc_a
    | 5 => .ld_a_atHLInc
    | 6 => .ld_atHLDec_a
    | _ => .ld_a_atHLDec
  | 3 => if q = 0 then Instr.incReg16 (reg16OfCode p) else Instr.decReg16 (reg16OfCode p)
  | 4 => Instr.inc8 (opnd8OfCode y)
  | 5 => Instr.dec8 (opnd8OfCode y)
  | 6 =>
    match opnd8OfCode y with
    | .reg r => Instr.ldRegImm r n8
    | .atHL => .ld_atHL_n8 n8
  | _ =>
    match y with
    | 0 => .rlca
    | 1 => .rrca
    | 2 => .rla
    | 3 => .rra
    | 4 => .daa
    | 5 => .cpl
    | 6 => .scf
    | _ => .ccf

/-- The opcodes 0x40 to 0x7F (R75, x = 1). -/
def decodeX1 (y z : Nat) : Instr :=
  match opnd8OfCode y, opnd8OfCode z with
  | .atHL, .atHL => .halt
  | .reg dst, .atHL => Instr.ldRegAtHL dst
  | .atHL, .reg r => Instr.ldAtHLReg r
  | .reg dst, .reg r => Instr.ldRegReg dst r

/-- The opcodes 0xC0 to 0xFF but for 0xCB and the undefined ones (R75, x = 3). -/
def decodeX3 (y z p q : Nat) (n8 : Byte) (n16 : Word) : Instr :=
  match z with
  | 0 =>
    match y with
    | 4 => .ldh_atA8_a n8
    | 5 => .add_sp_e8 n8
    | 6 => .ldh_a_atA8 n8
    | 7 => .ld_hl_spE8 n8
    | _ => Instr.retCond (condOfCode y)
  | 1 =>
    if q = 0 then Instr.pop (pairOfCode p)
    else
      match p with
      | 0 => .ret
      | 1 => .reti
      | 2 => .jp_atHL
      | _ => .ld_sp_hl
  | 2 =>
    match y with
    | 4 => .ld_atC_a
    | 5 => .ld_atA16_a n16
    | 6 => .ld_a_atC
    | 7 => .ld_a_atA16 n16
    | _ => Instr.jpCond (condOfCode y) n16
  | 3 =>
    match y with
    | 0 => .jp_a16 n16
    | 6 => .di
    | _ => .ei
  | 4 => Instr.callCond (condOfCode y) n16
  | 5 => if q = 0 then Instr.push (pairOfCode p) else .call_a16 n16
  | 6 => Instr.aluImm (aluOfCode y) n8
  | _ => Instr.rst (Fin.ofNat 8 y)

/-- The CB map (R77): the instruction of the CB opcode `o`. -/
def decodeCb (o : Byte) : Instr :=
  match xField o with
  | 0 => Instr.rot (rotOfCode (yField o)) (opnd8OfCode (zField o))
  | 1 => Instr.bit (Fin.ofNat 8 (yField o)) (opnd8OfCode (zField o))
  | 2 => Instr.res (Fin.ofNat 8 (yField o)) (opnd8OfCode (zField o))
  | _ => Instr.set (Fin.ofNat 8 (yField o)) (opnd8OfCode (zField o))

/-- The instruction of an opcode byte and the two bytes after it (R75), with `CB_ENABLED` = `cb`. A byte
that the instruction does not have is not looked at. With `cb` false the byte 0xCB is an opcode of its own,
`prefix_cb` (R181, log entry 9). -/
def instrOf (cb : Bool) (op b1 b2 : Byte) : Instr :=
  match op.toNat with
  | 0xD3 => .undefined_d3
  | 0xDB => .undefined_db
  | 0xDD => .undefined_dd
  | 0xE3 => .undefined_e3
  | 0xE4 => .undefined_e4
  | 0xEB => .undefined_eb
  | 0xEC => .undefined_ec
  | 0xED => .undefined_ed
  | 0xF4 => .undefined_f4
  | 0xFC => .undefined_fc
  | 0xFD => .undefined_fd
  | 0xCB => if cb then decodeCb b1 else .prefix_cb
  | _ =>
    match xField op with
    | 0 => decodeX0 (yField op) (zField op) (pField op) (qField op) b1 (concat b2 b1)
    | 1 => decodeX1 (yField op) (zField op)
    | 2 => Instr.alu (aluOfCode (yField op)) (opnd8OfCode (zField op))
    | _ => decodeX3 (yField op) (zField op) (pField op) (qField op) b1 (concat b2 b1)

/-- The opcodes of three bytes (R74). -/
def threeByteOpcodes : List Byte :=
  [0x01#8, 0x11#8, 0x21#8, 0x31#8, 0x08#8, 0xC2#8, 0xC3#8, 0xC4#8, 0xCA#8, 0xCC#8, 0xCD#8, 0xD2#8,
   0xD4#8, 0xDA#8, 0xDC#8, 0xEA#8, 0xFA#8]

/-- The opcodes of two bytes but for 0xCB (R74). -/
def twoByteOpcodes : List Byte :=
  [0x06#8, 0x0E#8, 0x16#8, 0x1E#8, 0x26#8, 0x2E#8, 0x36#8, 0x3E#8, 0x10#8, 0x18#8, 0x20#8, 0x28#8,
   0x30#8, 0x38#8, 0xC6#8, 0xCE#8, 0xD6#8, 0xDE#8, 0xE6#8, 0xEE#8, 0xF6#8, 0xFE#8, 0xE0#8, 0xF0#8,
   0xE8#8, 0xF8#8]

/-- How many operand bytes follow the opcode byte (R60, R74). The byte 0xCB is followed by one when
`CB_ENABLED` is true and by none that is fetched when it is false (R181). -/
def operandBytes (cb : Bool) (op : Byte) : Nat :=
  if op ∈ threeByteOpcodes then 2
  else if op ∈ twoByteOpcodes then 1
  else if op = 0xCB#8 ∧ cb = true then 1
  else 0

/-- Why a list of bytes is no instruction. -/
inductive DecodeError where
  /-- The list is empty. -/
  | noOpcode
  /-- The list ends before the operand bytes of this opcode do. -/
  | truncated (op : Byte)
deriving DecidableEq, Repr

/-- The instruction at the head of a list of bytes, with the bytes after it (R75, R77). -/
def decode (cb : Bool) (bytes : List Byte) : Except DecodeError (Instr × List Byte) :=
  match bytes with
  | [] => .error .noOpcode
  | op :: rest =>
    if rest.length < operandBytes cb op then .error (.truncated op)
    else .ok (instrOf cb op (rest.getD 0 0#8) (rest.getD 1 0#8), rest.drop (operandBytes cb op))

/-! ## Encode (R61, R76, R77, opcode_table.json) -/

/-- A one-byte instruction (R61, format OP). -/
def encOp (op : Byte) : List Byte := [op]

/-- A two-byte instruction with an operand byte (R61, formats OP_N8, OP_A8, OP_E8, STOP). -/
def encByte (op n8 : Byte) : List Byte := [op, n8]

/-- A three-byte instruction, its word little-endian (R61, R70, formats OP_N16, OP_A16). -/
def encWord (op : Byte) (n16 : Word) : List Byte := [op, loByte n16, hiByte n16]

/-- A CB instruction (R61, format CB). -/
def encCb (o : Byte) : List Byte := [0xCB#8, o]

/-- The bytes of an instruction, row by row of opcode_table.json. -/
def encode (i : Instr) : List Byte :=
  match i with
  | .nop => encOp 0x00#8
  | .ld_bc_n16 n16 => encWord 0x01#8 n16
  | .ld_atBC_a => encOp 0x02#8
  | .inc_bc => encOp 0x03#8
  | .inc_b => encOp 0x04#8
  | .dec_b => encOp 0x05#8
  | .ld_b_n8 n8 => encByte 0x06#8 n8
  | .rlca => encOp 0x07#8
  | .ld_atA16_sp a16 => encWord 0x08#8 a16
  | .add_hl_bc => encOp 0x09#8
  | .ld_a_atBC => encOp 0x0A#8
  | .dec_bc => encOp 0x0B#8
  | .inc_c => encOp 0x0C#8
  | .dec_c => encOp 0x0D#8
  | .ld_c_n8 n8 => encByte 0x0E#8 n8
  | .rrca => encOp 0x0F#8
  | .stop n8 => encByte 0x10#8 n8
  | .ld_de_n16 n16 => encWord 0x11#8 n16
  | .ld_atDE_a => encOp 0x12#8
  | .inc_de => encOp 0x13#8
  | .inc_d => encOp 0x14#8
  | .dec_d => encOp 0x15#8
  | .ld_d_n8 n8 => encByte 0x16#8 n8
  | .rla => encOp 0x17#8
  | .jr_e8 e8 => encByte 0x18#8 e8
  | .add_hl_de => encOp 0x19#8
  | .ld_a_atDE => encOp 0x1A#8
  | .dec_de => encOp 0x1B#8
  | .inc_e => encOp 0x1C#8
  | .dec_e => encOp 0x1D#8
  | .ld_e_n8 n8 => encByte 0x1E#8 n8
  | .rra => encOp 0x1F#8
  | .jr_nz_e8 e8 => encByte 0x20#8 e8
  | .ld_hl_n16 n16 => encWord 0x21#8 n16
  | .ld_atHLInc_a => encOp 0x22#8
  | .inc_hl => encOp 0x23#8
  | .inc_h => encOp 0x24#8
  | .dec_h => encOp 0x25#8
  | .ld_h_n8 n8 => encByte 0x26#8 n8
  | .daa => encOp 0x27#8
  | .jr_z_e8 e8 => encByte 0x28#8 e8
  | .add_hl_hl => encOp 0x29#8
  | .ld_a_atHLInc => encOp 0x2A#8
  | .dec_hl => encOp 0x2B#8
  | .inc_l => encOp 0x2C#8
  | .dec_l => encOp 0x2D#8
  | .ld_l_n8 n8 => encByte 0x2E#8 n8
  | .cpl => encOp 0x2F#8
  | .jr_nc_e8 e8 => encByte 0x30#8 e8
  | .ld_sp_n16 n16 => encWord 0x31#8 n16
  | .ld_atHLDec_a => encOp 0x32#8
  | .inc_sp => encOp 0x33#8
  | .inc_atHL => encOp 0x34#8
  | .dec_atHL => encOp 0x35#8
  | .ld_atHL_n8 n8 => encByte 0x36#8 n8
  | .scf => encOp 0x37#8
  | .jr_c_e8 e8 => encByte 0x38#8 e8
  | .add_hl_sp => encOp 0x39#8
  | .ld_a_atHLDec => encOp 0x3A#8
  | .dec_sp => encOp 0x3B#8
  | .inc_a => encOp 0x3C#8
  | .dec_a => encOp 0x3D#8
  | .ld_a_n8 n8 => encByte 0x3E#8 n8
  | .ccf => encOp 0x3F#8
  | .ld_b_b => encOp 0x40#8
  | .ld_b_c => encOp 0x41#8
  | .ld_b_d => encOp 0x42#8
  | .ld_b_e => encOp 0x43#8
  | .ld_b_h => encOp 0x44#8
  | .ld_b_l => encOp 0x45#8
  | .ld_b_atHL => encOp 0x46#8
  | .ld_b_a => encOp 0x47#8
  | .ld_c_b => encOp 0x48#8
  | .ld_c_c => encOp 0x49#8
  | .ld_c_d => encOp 0x4A#8
  | .ld_c_e => encOp 0x4B#8
  | .ld_c_h => encOp 0x4C#8
  | .ld_c_l => encOp 0x4D#8
  | .ld_c_atHL => encOp 0x4E#8
  | .ld_c_a => encOp 0x4F#8
  | .ld_d_b => encOp 0x50#8
  | .ld_d_c => encOp 0x51#8
  | .ld_d_d => encOp 0x52#8
  | .ld_d_e => encOp 0x53#8
  | .ld_d_h => encOp 0x54#8
  | .ld_d_l => encOp 0x55#8
  | .ld_d_atHL => encOp 0x56#8
  | .ld_d_a => encOp 0x57#8
  | .ld_e_b => encOp 0x58#8
  | .ld_e_c => encOp 0x59#8
  | .ld_e_d => encOp 0x5A#8
  | .ld_e_e => encOp 0x5B#8
  | .ld_e_h => encOp 0x5C#8
  | .ld_e_l => encOp 0x5D#8
  | .ld_e_atHL => encOp 0x5E#8
  | .ld_e_a => encOp 0x5F#8
  | .ld_h_b => encOp 0x60#8
  | .ld_h_c => encOp 0x61#8
  | .ld_h_d => encOp 0x62#8
  | .ld_h_e => encOp 0x63#8
  | .ld_h_h => encOp 0x64#8
  | .ld_h_l => encOp 0x65#8
  | .ld_h_atHL => encOp 0x66#8
  | .ld_h_a => encOp 0x67#8
  | .ld_l_b => encOp 0x68#8
  | .ld_l_c => encOp 0x69#8
  | .ld_l_d => encOp 0x6A#8
  | .ld_l_e => encOp 0x6B#8
  | .ld_l_h => encOp 0x6C#8
  | .ld_l_l => encOp 0x6D#8
  | .ld_l_atHL => encOp 0x6E#8
  | .ld_l_a => encOp 0x6F#8
  | .ld_atHL_b => encOp 0x70#8
  | .ld_atHL_c => encOp 0x71#8
  | .ld_atHL_d => encOp 0x72#8
  | .ld_atHL_e => encOp 0x73#8
  | .ld_atHL_h => encOp 0x74#8
  | .ld_atHL_l => encOp 0x75#8
  | .halt => encOp 0x76#8
  | .ld_atHL_a => encOp 0x77#8
  | .ld_a_b => encOp 0x78#8
  | .ld_a_c => encOp 0x79#8
  | .ld_a_d => encOp 0x7A#8
  | .ld_a_e => encOp 0x7B#8
  | .ld_a_h => encOp 0x7C#8
  | .ld_a_l => encOp 0x7D#8
  | .ld_a_atHL => encOp 0x7E#8
  | .ld_a_a => encOp 0x7F#8
  | .add_a_b => encOp 0x80#8
  | .add_a_c => encOp 0x81#8
  | .add_a_d => encOp 0x82#8
  | .add_a_e => encOp 0x83#8
  | .add_a_h => encOp 0x84#8
  | .add_a_l => encOp 0x85#8
  | .add_a_atHL => encOp 0x86#8
  | .add_a_a => encOp 0x87#8
  | .adc_a_b => encOp 0x88#8
  | .adc_a_c => encOp 0x89#8
  | .adc_a_d => encOp 0x8A#8
  | .adc_a_e => encOp 0x8B#8
  | .adc_a_h => encOp 0x8C#8
  | .adc_a_l => encOp 0x8D#8
  | .adc_a_atHL => encOp 0x8E#8
  | .adc_a_a => encOp 0x8F#8
  | .sub_b => encOp 0x90#8
  | .sub_c => encOp 0x91#8
  | .sub_d => encOp 0x92#8
  | .sub_e => encOp 0x93#8
  | .sub_h => encOp 0x94#8
  | .sub_l => encOp 0x95#8
  | .sub_atHL => encOp 0x96#8
  | .sub_a => encOp 0x97#8
  | .sbc_a_b => encOp 0x98#8
  | .sbc_a_c => encOp 0x99#8
  | .sbc_a_d => encOp 0x9A#8
  | .sbc_a_e => encOp 0x9B#8
  | .sbc_a_h => encOp 0x9C#8
  | .sbc_a_l => encOp 0x9D#8
  | .sbc_a_atHL => encOp 0x9E#8
  | .sbc_a_a => encOp 0x9F#8
  | .and_b => encOp 0xA0#8
  | .and_c => encOp 0xA1#8
  | .and_d => encOp 0xA2#8
  | .and_e => encOp 0xA3#8
  | .and_h => encOp 0xA4#8
  | .and_l => encOp 0xA5#8
  | .and_atHL => encOp 0xA6#8
  | .and_a => encOp 0xA7#8
  | .xor_b => encOp 0xA8#8
  | .xor_c => encOp 0xA9#8
  | .xor_d => encOp 0xAA#8
  | .xor_e => encOp 0xAB#8
  | .xor_h => encOp 0xAC#8
  | .xor_l => encOp 0xAD#8
  | .xor_atHL => encOp 0xAE#8
  | .xor_a => encOp 0xAF#8
  | .or_b => encOp 0xB0#8
  | .or_c => encOp 0xB1#8
  | .or_d => encOp 0xB2#8
  | .or_e => encOp 0xB3#8
  | .or_h => encOp 0xB4#8
  | .or_l => encOp 0xB5#8
  | .or_atHL => encOp 0xB6#8
  | .or_a => encOp 0xB7#8
  | .cp_b => encOp 0xB8#8
  | .cp_c => encOp 0xB9#8
  | .cp_d => encOp 0xBA#8
  | .cp_e => encOp 0xBB#8
  | .cp_h => encOp 0xBC#8
  | .cp_l => encOp 0xBD#8
  | .cp_atHL => encOp 0xBE#8
  | .cp_a => encOp 0xBF#8
  | .ret_nz => encOp 0xC0#8
  | .pop_bc => encOp 0xC1#8
  | .jp_nz_a16 a16 => encWord 0xC2#8 a16
  | .jp_a16 a16 => encWord 0xC3#8 a16
  | .call_nz_a16 a16 => encWord 0xC4#8 a16
  | .push_bc => encOp 0xC5#8
  | .add_a_n8 n8 => encByte 0xC6#8 n8
  | .rst_00h => encOp 0xC7#8
  | .ret_z => encOp 0xC8#8
  | .ret => encOp 0xC9#8
  | .jp_z_a16 a16 => encWord 0xCA#8 a16
  | .call_z_a16 a16 => encWord 0xCC#8 a16
  | .call_a16 a16 => encWord 0xCD#8 a16
  | .adc_a_n8 n8 => encByte 0xCE#8 n8
  | .rst_08h => encOp 0xCF#8
  | .ret_nc => encOp 0xD0#8
  | .pop_de => encOp 0xD1#8
  | .jp_nc_a16 a16 => encWord 0xD2#8 a16
  | .call_nc_a16 a16 => encWord 0xD4#8 a16
  | .push_de => encOp 0xD5#8
  | .sub_n8 n8 => encByte 0xD6#8 n8
  | .rst_10h => encOp 0xD7#8
  | .ret_c => encOp 0xD8#8
  | .reti => encOp 0xD9#8
  | .jp_c_a16 a16 => encWord 0xDA#8 a16
  | .call_c_a16 a16 => encWord 0xDC#8 a16
  | .sbc_a_n8 n8 => encByte 0xDE#8 n8
  | .rst_18h => encOp 0xDF#8
  | .ldh_atA8_a a8 => encByte 0xE0#8 a8
  | .pop_hl => encOp 0xE1#8
  | .ld_atC_a => encOp 0xE2#8
  | .push_hl => encOp 0xE5#8
  | .and_n8 n8 => encByte 0xE6#8 n8
  | .rst_20h => encOp 0xE7#8
  | .add_sp_e8 e8 => encByte 0xE8#8 e8
  | .jp_atHL => encOp 0xE9#8
  | .ld_atA16_a a16 => encWord 0xEA#8 a16
  | .xor_n8 n8 => encByte 0xEE#8 n8
  | .rst_28h => encOp 0xEF#8
  | .ldh_a_atA8 a8 => encByte 0xF0#8 a8
  | .pop_af => encOp 0xF1#8
  | .ld_a_atC => encOp 0xF2#8
  | .di => encOp 0xF3#8
  | .push_af => encOp 0xF5#8
  | .or_n8 n8 => encByte 0xF6#8 n8
  | .rst_30h => encOp 0xF7#8
  | .ld_hl_spE8 e8 => encByte 0xF8#8 e8
  | .ld_sp_hl => encOp 0xF9#8
  | .ld_a_atA16 a16 => encWord 0xFA#8 a16
  | .ei => encOp 0xFB#8
  | .cp_n8 n8 => encByte 0xFE#8 n8
  | .rst_38h => encOp 0xFF#8
  | .prefix_cb => encOp 0xCB#8
  | .undefined_d3 => encOp 0xD3#8
  | .undefined_db => encOp 0xDB#8
  | .undefined_dd => encOp 0xDD#8
  | .undefined_e3 => encOp 0xE3#8
  | .undefined_e4 => encOp 0xE4#8
  | .undefined_eb => encOp 0xEB#8
  | .undefined_ec => encOp 0xEC#8
  | .undefined_ed => encOp 0xED#8
  | .undefined_f4 => encOp 0xF4#8
  | .undefined_fc => encOp 0xFC#8
  | .undefined_fd => encOp 0xFD#8
  | .rlc_b => encCb 0x00#8
  | .rlc_c => encCb 0x01#8
  | .rlc_d => encCb 0x02#8
  | .rlc_e => encCb 0x03#8
  | .rlc_h => encCb 0x04#8
  | .rlc_l => encCb 0x05#8
  | .rlc_atHL => encCb 0x06#8
  | .rlc_a => encCb 0x07#8
  | .rrc_b => encCb 0x08#8
  | .rrc_c => encCb 0x09#8
  | .rrc_d => encCb 0x0A#8
  | .rrc_e => encCb 0x0B#8
  | .rrc_h => encCb 0x0C#8
  | .rrc_l => encCb 0x0D#8
  | .rrc_atHL => encCb 0x0E#8
  | .rrc_a => encCb 0x0F#8
  | .rl_b => encCb 0x10#8
  | .rl_c => encCb 0x11#8
  | .rl_d => encCb 0x12#8
  | .rl_e => encCb 0x13#8
  | .rl_h => encCb 0x14#8
  | .rl_l => encCb 0x15#8
  | .rl_atHL => encCb 0x16#8
  | .rl_a => encCb 0x17#8
  | .rr_b => encCb 0x18#8
  | .rr_c => encCb 0x19#8
  | .rr_d => encCb 0x1A#8
  | .rr_e => encCb 0x1B#8
  | .rr_h => encCb 0x1C#8
  | .rr_l => encCb 0x1D#8
  | .rr_atHL => encCb 0x1E#8
  | .rr_a => encCb 0x1F#8
  | .sla_b => encCb 0x20#8
  | .sla_c => encCb 0x21#8
  | .sla_d => encCb 0x22#8
  | .sla_e => encCb 0x23#8
  | .sla_h => encCb 0x24#8
  | .sla_l => encCb 0x25#8
  | .sla_atHL => encCb 0x26#8
  | .sla_a => encCb 0x27#8
  | .sra_b => encCb 0x28#8
  | .sra_c => encCb 0x29#8
  | .sra_d => encCb 0x2A#8
  | .sra_e => encCb 0x2B#8
  | .sra_h => encCb 0x2C#8
  | .sra_l => encCb 0x2D#8
  | .sra_atHL => encCb 0x2E#8
  | .sra_a => encCb 0x2F#8
  | .swap_b => encCb 0x30#8
  | .swap_c => encCb 0x31#8
  | .swap_d => encCb 0x32#8
  | .swap_e => encCb 0x33#8
  | .swap_h => encCb 0x34#8
  | .swap_l => encCb 0x35#8
  | .swap_atHL => encCb 0x36#8
  | .swap_a => encCb 0x37#8
  | .srl_b => encCb 0x38#8
  | .srl_c => encCb 0x39#8
  | .srl_d => encCb 0x3A#8
  | .srl_e => encCb 0x3B#8
  | .srl_h => encCb 0x3C#8
  | .srl_l => encCb 0x3D#8
  | .srl_atHL => encCb 0x3E#8
  | .srl_a => encCb 0x3F#8
  | .bit_0_b => encCb 0x40#8
  | .bit_0_c => encCb 0x41#8
  | .bit_0_d => encCb 0x42#8
  | .bit_0_e => encCb 0x43#8
  | .bit_0_h => encCb 0x44#8
  | .bit_0_l => encCb 0x45#8
  | .bit_0_atHL => encCb 0x46#8
  | .bit_0_a => encCb 0x47#8
  | .bit_1_b => encCb 0x48#8
  | .bit_1_c => encCb 0x49#8
  | .bit_1_d => encCb 0x4A#8
  | .bit_1_e => encCb 0x4B#8
  | .bit_1_h => encCb 0x4C#8
  | .bit_1_l => encCb 0x4D#8
  | .bit_1_atHL => encCb 0x4E#8
  | .bit_1_a => encCb 0x4F#8
  | .bit_2_b => encCb 0x50#8
  | .bit_2_c => encCb 0x51#8
  | .bit_2_d => encCb 0x52#8
  | .bit_2_e => encCb 0x53#8
  | .bit_2_h => encCb 0x54#8
  | .bit_2_l => encCb 0x55#8
  | .bit_2_atHL => encCb 0x56#8
  | .bit_2_a => encCb 0x57#8
  | .bit_3_b => encCb 0x58#8
  | .bit_3_c => encCb 0x59#8
  | .bit_3_d => encCb 0x5A#8
  | .bit_3_e => encCb 0x5B#8
  | .bit_3_h => encCb 0x5C#8
  | .bit_3_l => encCb 0x5D#8
  | .bit_3_atHL => encCb 0x5E#8
  | .bit_3_a => encCb 0x5F#8
  | .bit_4_b => encCb 0x60#8
  | .bit_4_c => encCb 0x61#8
  | .bit_4_d => encCb 0x62#8
  | .bit_4_e => encCb 0x63#8
  | .bit_4_h => encCb 0x64#8
  | .bit_4_l => encCb 0x65#8
  | .bit_4_atHL => encCb 0x66#8
  | .bit_4_a => encCb 0x67#8
  | .bit_5_b => encCb 0x68#8
  | .bit_5_c => encCb 0x69#8
  | .bit_5_d => encCb 0x6A#8
  | .bit_5_e => encCb 0x6B#8
  | .bit_5_h => encCb 0x6C#8
  | .bit_5_l => encCb 0x6D#8
  | .bit_5_atHL => encCb 0x6E#8
  | .bit_5_a => encCb 0x6F#8
  | .bit_6_b => encCb 0x70#8
  | .bit_6_c => encCb 0x71#8
  | .bit_6_d => encCb 0x72#8
  | .bit_6_e => encCb 0x73#8
  | .bit_6_h => encCb 0x74#8
  | .bit_6_l => encCb 0x75#8
  | .bit_6_atHL => encCb 0x76#8
  | .bit_6_a => encCb 0x77#8
  | .bit_7_b => encCb 0x78#8
  | .bit_7_c => encCb 0x79#8
  | .bit_7_d => encCb 0x7A#8
  | .bit_7_e => encCb 0x7B#8
  | .bit_7_h => encCb 0x7C#8
  | .bit_7_l => encCb 0x7D#8
  | .bit_7_atHL => encCb 0x7E#8
  | .bit_7_a => encCb 0x7F#8
  | .res_0_b => encCb 0x80#8
  | .res_0_c => encCb 0x81#8
  | .res_0_d => encCb 0x82#8
  | .res_0_e => encCb 0x83#8
  | .res_0_h => encCb 0x84#8
  | .res_0_l => encCb 0x85#8
  | .res_0_atHL => encCb 0x86#8
  | .res_0_a => encCb 0x87#8
  | .res_1_b => encCb 0x88#8
  | .res_1_c => encCb 0x89#8
  | .res_1_d => encCb 0x8A#8
  | .res_1_e => encCb 0x8B#8
  | .res_1_h => encCb 0x8C#8
  | .res_1_l => encCb 0x8D#8
  | .res_1_atHL => encCb 0x8E#8
  | .res_1_a => encCb 0x8F#8
  | .res_2_b => encCb 0x90#8
  | .res_2_c => encCb 0x91#8
  | .res_2_d => encCb 0x92#8
  | .res_2_e => encCb 0x93#8
  | .res_2_h => encCb 0x94#8
  | .res_2_l => encCb 0x95#8
  | .res_2_atHL => encCb 0x96#8
  | .res_2_a => encCb 0x97#8
  | .res_3_b => encCb 0x98#8
  | .res_3_c => encCb 0x99#8
  | .res_3_d => encCb 0x9A#8
  | .res_3_e => encCb 0x9B#8
  | .res_3_h => encCb 0x9C#8
  | .res_3_l => encCb 0x9D#8
  | .res_3_atHL => encCb 0x9E#8
  | .res_3_a => encCb 0x9F#8
  | .res_4_b => encCb 0xA0#8
  | .res_4_c => encCb 0xA1#8
  | .res_4_d => encCb 0xA2#8
  | .res_4_e => encCb 0xA3#8
  | .res_4_h => encCb 0xA4#8
  | .res_4_l => encCb 0xA5#8
  | .res_4_atHL => encCb 0xA6#8
  | .res_4_a => encCb 0xA7#8
  | .res_5_b => encCb 0xA8#8
  | .res_5_c => encCb 0xA9#8
  | .res_5_d => encCb 0xAA#8
  | .res_5_e => encCb 0xAB#8
  | .res_5_h => encCb 0xAC#8
  | .res_5_l => encCb 0xAD#8
  | .res_5_atHL => encCb 0xAE#8
  | .res_5_a => encCb 0xAF#8
  | .res_6_b => encCb 0xB0#8
  | .res_6_c => encCb 0xB1#8
  | .res_6_d => encCb 0xB2#8
  | .res_6_e => encCb 0xB3#8
  | .res_6_h => encCb 0xB4#8
  | .res_6_l => encCb 0xB5#8
  | .res_6_atHL => encCb 0xB6#8
  | .res_6_a => encCb 0xB7#8
  | .res_7_b => encCb 0xB8#8
  | .res_7_c => encCb 0xB9#8
  | .res_7_d => encCb 0xBA#8
  | .res_7_e => encCb 0xBB#8
  | .res_7_h => encCb 0xBC#8
  | .res_7_l => encCb 0xBD#8
  | .res_7_atHL => encCb 0xBE#8
  | .res_7_a => encCb 0xBF#8
  | .set_0_b => encCb 0xC0#8
  | .set_0_c => encCb 0xC1#8
  | .set_0_d => encCb 0xC2#8
  | .set_0_e => encCb 0xC3#8
  | .set_0_h => encCb 0xC4#8
  | .set_0_l => encCb 0xC5#8
  | .set_0_atHL => encCb 0xC6#8
  | .set_0_a => encCb 0xC7#8
  | .set_1_b => encCb 0xC8#8
  | .set_1_c => encCb 0xC9#8
  | .set_1_d => encCb 0xCA#8
  | .set_1_e => encCb 0xCB#8
  | .set_1_h => encCb 0xCC#8
  | .set_1_l => encCb 0xCD#8
  | .set_1_atHL => encCb 0xCE#8
  | .set_1_a => encCb 0xCF#8
  | .set_2_b => encCb 0xD0#8
  | .set_2_c => encCb 0xD1#8
  | .set_2_d => encCb 0xD2#8
  | .set_2_e => encCb 0xD3#8
  | .set_2_h => encCb 0xD4#8
  | .set_2_l => encCb 0xD5#8
  | .set_2_atHL => encCb 0xD6#8
  | .set_2_a => encCb 0xD7#8
  | .set_3_b => encCb 0xD8#8
  | .set_3_c => encCb 0xD9#8
  | .set_3_d => encCb 0xDA#8
  | .set_3_e => encCb 0xDB#8
  | .set_3_h => encCb 0xDC#8
  | .set_3_l => encCb 0xDD#8
  | .set_3_atHL => encCb 0xDE#8
  | .set_3_a => encCb 0xDF#8
  | .set_4_b => encCb 0xE0#8
  | .set_4_c => encCb 0xE1#8
  | .set_4_d => encCb 0xE2#8
  | .set_4_e => encCb 0xE3#8
  | .set_4_h => encCb 0xE4#8
  | .set_4_l => encCb 0xE5#8
  | .set_4_atHL => encCb 0xE6#8
  | .set_4_a => encCb 0xE7#8
  | .set_5_b => encCb 0xE8#8
  | .set_5_c => encCb 0xE9#8
  | .set_5_d => encCb 0xEA#8
  | .set_5_e => encCb 0xEB#8
  | .set_5_h => encCb 0xEC#8
  | .set_5_l => encCb 0xED#8
  | .set_5_atHL => encCb 0xEE#8
  | .set_5_a => encCb 0xEF#8
  | .set_6_b => encCb 0xF0#8
  | .set_6_c => encCb 0xF1#8
  | .set_6_d => encCb 0xF2#8
  | .set_6_e => encCb 0xF3#8
  | .set_6_h => encCb 0xF4#8
  | .set_6_l => encCb 0xF5#8
  | .set_6_atHL => encCb 0xF6#8
  | .set_6_a => encCb 0xF7#8
  | .set_7_b => encCb 0xF8#8
  | .set_7_c => encCb 0xF9#8
  | .set_7_d => encCb 0xFA#8
  | .set_7_e => encCb 0xFB#8
  | .set_7_h => encCb 0xFC#8
  | .set_7_l => encCb 0xFD#8
  | .set_7_atHL => encCb 0xFE#8
  | .set_7_a => encCb 0xFF#8

/-! ## The host's table words -/

/-- Whether a word of the table is read with `CB_ENABLED` true: the rows of one byte, the row of the 0xCB
byte itself among them, are read with the default `false`; wider words with `true` (log entry 10). -/
def tableCb (nbits : Nat) : Bool := decide (8 < nbits)

/-- The bytes of a table word, first byte first, then zeros up to three bytes (log entry 10). Bit 0 is the
least significant bit of the first byte, but in the two-byte rows of the CB map, which opcode_table.json
numbers as `byte0 * 256 + byte1`. -/
def tableBytes (nbits w : Nat) : List Byte :=
  let v := w % 2 ^ nbits
  if nbits = 16 ∧ v / 256 = 0xCB then [0xCB#8, BitVec.ofNat 8 v, 0#8]
  else [BitVec.ofNat 8 v, BitVec.ofNat 8 (v / 256), BitVec.ofNat 8 (v / 65536)]

/-- The instruction the decoder reads from a word of opcode_table.json. -/
def decodeTableWord (nbits w : Nat) : Option Instr :=
  match decode (tableCb nbits) (tableBytes nbits w) with
  | .ok (i, _) => some i
  | .error _ => none

end Sys2Proof
end

