-- ==== Sys2Proof/Config.lean ====
section
/-! DEFINITION. The configuration of CORE (R6, R32): what is fixed before the first step and changed by
none. It is a record of plain data that State carries (log entry 5), so that a statement about every
state is a statement about every configuration. The spec gives no behaviour the treatment "any value",
so there is no free value here. -/

namespace Sys2Proof

/-- The configuration (R6, R32). -/
structure Config where
  /-- The ROM image as (offset, byte) pairs in canonical form; an offset below `romLen` that is not
  listed holds 0x00 (log entry 4). -/
  rom : List Host.Cell
  /-- `ROM_LEN`, the length of the loader's buffer (R6, R57). -/
  romLen : Nat
  /-- `CB_ENABLED`: whether the 0xCB map can be reached (R2, R6). -/
  cbEnabled : Bool
  /-- `AND_SETS_H`: H after AND; `false` is the document's value, `true` the silicon's (R6, R127). -/
  andSetsH : Bool
deriving DecidableEq, Repr

/-- The default configuration (R6): both options off. The image is the one of log entry 4: `ROM_LEN` is
0x8000 and every byte reads 0x00. -/
def Config.default : Config :=
  { rom := [], romLen := 0x8000, cbEnabled := false, andSetsH := false }

end Sys2Proof
end

