-- ==== Sys2Proof/Machine/State.lean ====
section
/-! DEFINITION. The state of CORE (10_state.md), the two faults of a step (R12, R183), and the launch state
(R196 to R200). State is plain data and holds the configuration beside the architectural state (log
entry 5). -/

namespace Sys2Proof.Machine

/-- The run state (R28, R195). It is no privilege level: CORE has one mode of execution (R189). -/
inductive Mode where
  | running
  /-- Entered by HALT (R177). -/
  | halted
  /-- Entered by STOP (R178). -/
  | stopped
deriving DecidableEq, Repr

/-- The kind of an access that failed (R183). -/
inductive AccessKind where
  | read
  | write
deriving DecidableEq, Repr

/-- The faults of a step: the two `raise`s of CORE (R12, R89, R183). -/
inductive Fault where
  /-- Raised by any fetch, load, store, push, pop or read-modify-write that reaches VRAM, OAM or IO, and by
  a read of ROM at or beyond `ROM_LEN`; `addr` is the address of the byte that failed (R39, R42, R183).
  The spec names this fault, so stopping here is what CORE does; against silicon, which would go on, it is
  safe. -/
  | unsupportedAddress (addr : Word) (kind : AccessKind)
  /-- Raised by the eleven undefined opcodes, and by 0xCB when `CB_ENABLED` is false; `pc` is the address of
  the opcode byte (R181, R182, R183). The spec names this fault; against silicon it is safe. -/
  | unimplementedOpcode (opcode : Byte) (pc : Word)
deriving DecidableEq, Repr

/-- The refusals of the model. -/
inductive Refusal where
  /-- Raised by exec's arm of an instruction that has no meaning yet; no arm raises it now. It is safe: a run
  that meets it proves nothing. -/
  | notModelled (mnemonic : String)
deriving DecidableEq, Repr

/-- Bytes by address, as (address, byte) pairs with rising addresses and no byte equal to what an unlisted
address reads as (`Memory.wf`). -/
abbrev Memory := List Host.Cell

/-- The state (10_state.md, R200). -/
structure State where
  /-- The accumulator (R14). -/
  a : Byte
  /-- The flags: Z bit 7, N bit 6, H bit 5, C bit 4 (R22, R25). -/
  f : Byte
  b : Byte
  c : Byte
  d : Byte
  e : Byte
  h : Byte
  l : Byte
  /-- The stack pointer (R21). -/
  sp : Word
  /-- The address of the next byte to fetch (R26). -/
  pc : Word
  /-- The interrupt master enable (R27); no rule of CORE reads it. -/
  ime : Bool
  /-- The run state (R28). -/
  mode : Mode
  /-- ERAM, WRAM and HRAM (R31), keyed by bus address (log entry 6). -/
  mem : Memory
  /-- The interrupt-enable register at 0xFFFF (R29). -/
  ie : Byte
  /-- The configuration (R32); no step changes it. -/
  cfg : Config
deriving DecidableEq, Repr

/-- The result of an instruction or a step. -/
abbrev Result := Host.Outcome State Fault Refusal

/-- The launch parameters (R6, R197, R199): everything of the launch state that the source leaves open. -/
structure Launch where
  initF : Byte
  initB : Byte
  initC : Byte
  initD : Byte
  initE : Byte
  initH : Byte
  initL : Byte
  initSp : Word
  /-- The contents of ERAM, WRAM and HRAM. -/
  initMem : Memory
  initIe : Byte
  cfg : Config
deriving DecidableEq, Repr

/-- The launch state for given launch parameters (R196 to R200). -/
def State.launch (p : Launch) : State :=
  { a := 0x01#8
    f := p.initF &&& 0xF0#8
    b := p.initB
    c := p.initC
    d := p.initD
    e := p.initE
    h := p.initH
    l := p.initL
    sp := p.initSp
    pc := 0x0100#16
    ime := false
    mode := .running
    mem := p.initMem
    ie := p.initIe
    cfg := p.cfg }

/-- One instance of the launch parameters: the registers of the family's post-boot state, which R197 offers
as a named premise (PRESUMED, log entry 1), no RAM byte listed (DESIGN CHOICE, log entry 2), IE zero (DESIGN
CHOICE, log entry 3), and the default configuration (log entries 4 and 5). -/
def Launch.postBoot : Launch :=
  { initF := 0xB0#8
    initB := 0x00#8
    initC := 0x13#8
    initD := 0x00#8
    initE := 0xD8#8
    initH := 0x01#8
    initL := 0x4D#8
    initSp := 0xFFFE#16
    initMem := []
    initIe := 0x00#8
    cfg := Config.default }

/-- The machine right after reset: the launch state of the named instance. R197 has claims range over every
launch value, so claims are stated over `State.launch` or over every state, and not over this one. -/
def State.reset : State := State.launch Launch.postBoot

end Sys2Proof.Machine
end

