-- ==== Sys2Proof/Machine/Ops.lean ====
section
/-! DEFINITION. The named operations over memory and the stack: the address map (R35), the byte and word
accesses (R36 to R45), the stack primitives (R48 to R50), and how an instruction ends, by the next state or
by the one operation that raises a fault (R186). -/

namespace Sys2Proof.Machine

/-! ## Lists of cells -/

/-- What an address that no cell lists reads as (log entries 2 and 4). -/
def unlistedByte : Byte := 0x00#8

/-- The byte a list of cells holds at an address. -/
def Memory.read (m : Memory) (k : Nat) : Byte :=
  match m with
  | [] => unlistedByte
  | (a, v) :: rest => if a = k then v else Memory.read rest k

/-- A list of cells without any cell at an address. -/
def Memory.erase (m : Memory) (k : Nat) : Memory := m.filter (fun x => x.1 != k)

/-- A cell put in front of the first cell with a larger address. -/
def Memory.insert (k : Nat) (v : Byte) (m : Memory) : Memory :=
  match m with
  | [] => [(k, v)]
  | (a, w) :: rest => if k < a then (k, v) :: (a, w) :: rest else (a, w) :: Memory.insert k v rest

/-- A list of cells with the byte at an address replaced; writing what an unlisted address reads as removes the
cell, so the canonical form is kept. -/
def Memory.write (m : Memory) (k : Nat) (v : Byte) : Memory :=
  if v = unlistedByte then Memory.erase m k else Memory.insert k v (Memory.erase m k)

/-- The canonical form: addresses strictly rising, and no cell equal to what its address reads as
unlisted. -/
abbrev Memory.wf (m : Memory) : Prop :=
  m.Pairwise (fun x y => x.1 < y.1) ∧ ∀ x ∈ m, x.2 ≠ unlistedByte

/-! ## The address map (R35) -/

/-- The ten regions of the address space (R35). -/
inductive Region where
  | rom | vram | eram | wram | echo | oam | unusable | io | hram | ie
deriving DecidableEq, Repr

/-- The region of an address (R35, R36). -/
def regionOf (addr : Word) : Region :=
  if addr.toNat ≤ 0x7FFF then .rom
  else if addr.toNat ≤ 0x9FFF then .vram
  else if addr.toNat ≤ 0xBFFF then .eram
  else if addr.toNat ≤ 0xDFFF then .wram
  else if addr.toNat ≤ 0xFDFF then .echo
  else if addr.toNat ≤ 0xFE9F then .oam
  else if addr.toNat ≤ 0xFEFF then .unusable
  else if addr.toNat ≤ 0xFF7F then .io
  else if addr.toNat ≤ 0xFFFE then .hram
  else .ie

/-- Whether a region is a RAM array, that is ERAM, WRAM or HRAM (R31). -/
def Region.isRam (r : Region) : Bool :=
  match r with
  | .eram | .wram | .hram => true
  | .rom | .vram | .echo | .oam | .unusable | .io | .ie => false

/-- Whether an access to a region faults whatever its kind (R42). -/
def Region.isUnsupported (r : Region) : Bool :=
  match r with
  | .vram | .oam | .io => true
  | .rom | .eram | .wram | .echo | .unusable | .hram | .ie => false

/-- The byte of the ROM image at an offset, if the buffer reaches it (R39, R57). -/
def romByte? (cfg : Config) (i : Nat) : Option Byte :=
  if i < cfg.romLen then some (Memory.read cfg.rom i) else none

/-! ## Bytes and words of memory -/

/-- `MemRead(addr, 1)` (R36). -/
def memRead (s : State) (addr : Word) : Except Fault Byte :=
  match regionOf addr with
  | .rom =>
    match romByte? s.cfg addr.toNat with
    | some v => .ok v
    | none => .error (.unsupportedAddress addr .read)
  | .vram | .oam | .io => .error (.unsupportedAddress addr .read)
  | .eram | .wram | .hram => .ok (Memory.read s.mem addr.toNat)
  | .echo | .unusable => .ok 0x00#8
  | .ie => .ok s.ie

/-- `MemWrite(addr, 1, v)` (R37). -/
def memWrite (s : State) (addr : Word) (v : Byte) : Except Fault State :=
  match regionOf addr with
  | .rom | .echo | .unusable => .ok s
  | .vram | .oam | .io => .error (.unsupportedAddress addr .write)
  | .eram | .wram | .hram => .ok { s with mem := Memory.write s.mem addr.toNat v }
  | .ie => .ok { s with ie := v }

/-- `MemRead(addr, 2)`: the low byte first, the address of the high byte wraps (R43). -/
def memRead16 (s : State) (addr : Word) : Except Fault Word := do
  let lo ← memRead s addr
  let hi ← memRead s (addr + 1#16)
  pure (concat hi lo)

/-- `MemWrite(addr, 2, v)`: the low byte first (R44). -/
def memWrite16 (s : State) (addr : Word) (v : Word) : Except Fault State := do
  let s₁ ← memWrite s addr (loByte v)
  memWrite s₁ (addr + 1#16) (hiByte v)

/-! ## The stack -/

/-- `Push8(v)` (R50). -/
def push8 (s : State) (v : Byte) : Except Fault State :=
  let sp := s.sp - 1#16
  memWrite { s with sp := sp } sp v

/-- `Pop8()` (R50). -/
def pop8 (s : State) : Except Fault (Byte × State) := do
  let v ← memRead s s.sp
  pure (v, { s with sp := s.sp + 1#16 })

/-- `Push16(v)`: the high byte first, so the low byte ends at the lower address (R48). -/
def push16 (s : State) (v : Word) : Except Fault State := do
  let s₁ ← push8 s (hiByte v)
  push8 s₁ (loByte v)

/-- `Pop16()`: the low byte first (R49). -/
def pop16 (s : State) : Except Fault (Word × State) := do
  let (lo, s₁) ← pop8 s
  let (hi, s₂) ← pop8 s₁
  pure (concat hi lo, s₂)

/-! ## Fetching a byte -/

/-- `FetchByte()`: the byte at PC, and PC advanced by one modulo 65536 (R84). A fetch that fails reports the
kind Read, since it is a read of the bus. -/
def fetchByte (s : State) : Except Fault (Byte × State) := do
  let v ← memRead s s.pc
  pure (v, { s with pc := s.pc + 1#16 })

/-! ## How an instruction ends -/

/-- Raising a fault, the one way a step stops (R12, R186). CORE takes no trap: no state is saved, no vector
is taken, and the state of after the step is that of before it (R90), so a fault carries no state (log entry
13). There is no return from a trap either: RETI is an ordinary return (R187). -/
def raise (e : Fault) : Result := .fault e

/-- The result of an instruction whose effect is computed access by access: the state after its last effect,
or the fault of the first access that failed (R91). -/
def finish (r : Except Fault State) : Result :=
  match r with
  | .ok s => .next s
  | .error e => raise e

end Sys2Proof.Machine
end

