-- ==== Sys2Proof/Machine/Operands.lean ====
section
/-! DEFINITION. The operand forms: the 8-bit registers (R14 to R17), the pairs (R18 to R20), the 16-bit
registers (R21, R64), the flags as bits of F (R22 to R25), the operand `r` with its `(HL)` form (R63), the
addresses of the addressing modes (R71, R85), and the condition codes (R87). -/

namespace Sys2Proof.Machine

/-! ## The 8-bit registers -/

/-- `R[r]` (R15). -/
def State.reg (s : State) (r : Reg8) : Byte :=
  match r with
  | .b => s.b
  | .c => s.c
  | .d => s.d
  | .e => s.e
  | .h => s.h
  | .l => s.l
  | .a => s.a

/-- `R[r] <- v` (R16). -/
def State.setReg (s : State) (r : Reg8) (v : Byte) : State :=
  match r with
  | .b => { s with b := v }
  | .c => { s with c := v }
  | .d => { s with d := v }
  | .e => { s with e := v }
  | .h => { s with h := v }
  | .l => { s with l := v }
  | .a => { s with a := v }

/-! ## The pairs and the 16-bit registers -/

/-- `RP[p]`: the first register is the high byte (R18, R19). -/
def State.pair (s : State) (p : Pair) : Word :=
  match p with
  | .bc => concat s.b s.c
  | .de => concat s.d s.e
  | .hl => concat s.h s.l
  | .af => concat s.a s.f

/-- `RP[p] <- v`; the low half of AF is stored with bits 3..0 cleared (R20, R25). -/
def State.setPair (s : State) (p : Pair) (v : Word) : State :=
  match p with
  | .bc => { s with b := hiByte v, c := loByte v }
  | .de => { s with d := hiByte v, e := loByte v }
  | .hl => { s with h := hiByte v, l := loByte v }
  | .af => { s with a := hiByte v, f := loByte v &&& 0xF0#8 }

/-- The value of a register of the field `pp` (R64). -/
def State.reg16 (s : State) (p : Reg16) : Word :=
  match p with
  | .bc => s.pair .bc
  | .de => s.pair .de
  | .hl => s.pair .hl
  | .sp => s.sp

/-- A register of the field `pp` written (R64). -/
def State.setReg16 (s : State) (p : Reg16) (v : Word) : State :=
  match p with
  | .bc => s.setPair .bc v
  | .de => s.setPair .de v
  | .hl => s.setPair .hl v
  | .sp => { s with sp := v }

/-! ## The flags -/

/-- The four flags of F (R22). -/
inductive Flag where
  | z | n | h | c
deriving DecidableEq, Repr

/-- The bit of F that holds a flag (R7, R22). -/
def Flag.bit (x : Flag) : Nat :=
  match x with
  | .z => 7
  | .n => 6
  | .h => 5
  | .c => 4

/-- A byte with bit `i` set to `b`. -/
def putBit (v : Byte) (i : Nat) (b : Bool) : Byte :=
  if b then v ||| (1#8 <<< i) else v &&& ~~~(1#8 <<< i)

/-- `F.x` read (R23). -/
def State.flag (s : State) (x : Flag) : Bool := s.f.getLsbD x.bit

/-- `F.x <- b`: one bit of F, and nothing else (R24). -/
def State.setFlag (s : State) (x : Flag) (b : Bool) : State :=
  { s with f := putBit s.f x.bit b }

/-! ## The operand `r` -/

/-- The value of an operand: the register, or the byte at the address in HL (R63, R122). -/
def readOpnd (s : State) (o : Opnd8) : Except Fault Byte :=
  match o with
  | .reg r => .ok (s.reg r)
  | .atHL => memRead s (s.pair .hl)

/-- An operand written: the register, or the byte at the address in HL (R63). -/
def writeOpnd (s : State) (o : Opnd8) (v : Byte) : Except Fault State :=
  match o with
  | .reg r => .ok (s.setReg r v)
  | .atHL => memWrite s (s.pair .hl) v

/-! ## Addresses -/

/-- The high-page address of an offset: `0xFF00 + a8` (R71). -/
def highPage (offset : Byte) : Word := 0xFF00#16 + zext16 offset

/-- The target of a relative jump from `pc_next` (R72). -/
def relativeTarget (pcNext : Word) (e8 : Byte) : Word := pcNext + sext16 e8

/-- The target of a restart (R73). -/
def restartTarget (y : Fin 8) : Word := BitVec.ofNat 16 (y.val * 8)

/-! ## Conditions -/

/-- Whether a condition holds, read from the flags (R87). -/
def State.holds (s : State) (cc : Cond) : Bool :=
  match cc with
  | .nz => !s.flag .z
  | .z => s.flag .z
  | .nc => !s.flag .c
  | .c => s.flag .c

end Sys2Proof.Machine
end

