-- ==== Sys2Proof/Machine/Flags.lean ====
section
/-! DEFINITION. The results and flags of every computation of the spec: the 8-bit binary operations (R121 to
R130), INC and DEC (R131, R133), DAA (R135), the 16-bit additions (R142, R143, R145), and the rotates and
shifts (R147, R148). Sums are exact natural numbers and are narrowed at the end (R8). -/

namespace Sys2Proof.Machine

/-- What an instruction writes to the flags, in the order of the notation `Z N H C` (R13); `none` is `-`, the
flag unchanged. -/
structure FlagWrite where
  z : Option Bool
  n : Option Bool
  h : Option Bool
  c : Option Bool
deriving DecidableEq, Repr

/-- A flag's bit of F written, or left when the write is `-` (R24). -/
def putFlag (f : Byte) (x : Flag) (w : Option Bool) : Byte :=
  match w with
  | none => f
  | some b => putBit f x.bit b

/-- F after a flag write: each named bit only (R24). -/
def FlagWrite.apply (w : FlagWrite) (f : Byte) : Byte :=
  putFlag (putFlag (putFlag (putFlag f .z w.z) .n w.n) .h w.h) .c w.c

/-- The flags of a state written (R24). -/
def State.writeFlags (s : State) (w : FlagWrite) : State := { s with f := w.apply s.f }

/-- A result byte with the flags that go with it. -/
structure AluOut where
  res : Byte
  flags : FlagWrite
deriving DecidableEq, Repr

/-- The low nibble as a number: `v AND 0xF`. -/
def lowNibble (v : Byte) : Nat := v.toNat % 16

/-! ## 8-bit binary operations -/

/-- ADD, and ADC with its carry-in (R123, R124). -/
def add8 (a b : Byte) (cin : Bool) : AluOut :=
  let sum := a.toNat + b.toNat + cin.toNat
  let r := BitVec.ofNat 8 sum
  { res := r
    flags :=
      { z := some (r == 0#8)
        n := some false
        h := some (decide (lowNibble a + lowNibble b + cin.toNat > 0xF))
        c := some (decide (sum > 0xFF)) } }

/-- SUB and CP, and SBC with its carry-in (R125, R126, R130). -/
def sub8 (a b : Byte) (cin : Bool) : AluOut :=
  let r := a - b - BitVec.ofNat 8 cin.toNat
  { res := r
    flags :=
      { z := some (r == 0#8)
        n := some true
        h := some (decide (lowNibble a < lowNibble b + cin.toNat))
        c := some (decide (a.toNat < b.toNat + cin.toNat)) } }

/-- A bitwise result: N and C are cleared (R127, R128, R129). -/
def logic8 (r : Byte) (h : Bool) : AluOut :=
  { res := r, flags := { z := some (r == 0#8), n := some false, h := some h, c := some false } }

/-- The binary operations on A (R67, R121): left operand `a`, right operand `b`, the carry flag `cin`, and
`AND_SETS_H` for the H of AND (R127). -/
def aluOut (op : AluOp) (andSetsH : Bool) (a b : Byte) (cin : Bool) : AluOut :=
  match op with
  | .add => add8 a b false
  | .adc => add8 a b cin
  | .sub => sub8 a b false
  | .sbc => sub8 a b cin
  | .and => logic8 (a &&& b) andSetsH
  | .xor => logic8 (a ^^^ b) false
  | .or => logic8 (a ||| b) false
  | .cp => sub8 a b false

/-! ## Increment, decrement, decimal adjust -/

/-- `INC`: C is left (R131). -/
def inc8 (v : Byte) : AluOut :=
  let r := v + 1#8
  { res := r
    flags := { z := some (r == 0#8), n := some false, h := some (lowNibble v == 0xF), c := none } }

/-- `DEC`: C is left (R133). -/
def dec8 (v : Byte) : AluOut :=
  let r := v - 1#8
  { res := r
    flags := { z := some (r == 0#8), n := some true, h := some (lowNibble v == 0x0), c := none } }

/-- `DAA` of A with the flags N, H and C; both tests are on A before the adjustment (R135). -/
def daa8 (a : Byte) (n h c : Bool) : AluOut :=
  let high := if n then c else c || decide (a.toNat > 0x99)
  let low := if n then h else h || decide (lowNibble a > 0x09)
  let corr := (if high then 0x60#8 else 0x00#8) + (if low then 0x06#8 else 0x00#8)
  let r := if n then a - corr else a + corr
  { res := r, flags := { z := some (r == 0#8), n := none, h := some false, c := some high } }

/-! ## 16-bit additions -/

/-- A result word with the flags that go with it. -/
structure AluOut16 where
  res : Word
  flags : FlagWrite
deriving DecidableEq, Repr

/-- The addition to HL with a carry-in: H is the carry out of bit 11, and Z is left (R142). With a carry-in it
is the source's `adc16`, which no instruction reaches (R145, log entry 15). -/
def adc16 (a b : Word) (cin : Bool) : AluOut16 :=
  let sum := a.toNat + b.toNat + cin.toNat
  { res := BitVec.ofNat 16 sum
    flags :=
      { z := none
        n := some false
        h := some (decide (a.toNat % 0x1000 + b.toNat % 0x1000 + cin.toNat > 0x0FFF))
        c := some (decide (sum > 0xFFFF)) } }

/-- `ADD HL,pp` (R142). -/
def add16 (a b : Word) : AluOut16 := adc16 a b false

/-- `SpAdd`: the sum is signed, and H and C are the carries of the unsigned sum of the low bytes (R143). Z and
N are cleared by both of its users (R117, R144). -/
def spAdd (sp : Word) (e8 : Byte) : AluOut16 :=
  { res := sp + sext16 e8
    flags :=
      { z := some false
        n := some false
        h := some (decide (sp.toNat % 0x10 + e8.toNat % 0x10 > 0x0F))
        c := some (decide (sp.toNat % 0x100 + e8.toNat > 0xFF)) } }

/-! ## Rotates and shifts -/

/-- A carry bit as a byte. -/
def carryByte (b : Bool) : Byte := if b then 1#8 else 0#8

/-- The rotates and shifts of a byte with the carry-in `cin`: the new byte and the bit that goes to C, which
for SWAP is 0 (R147, R148). -/
def rotate8 (op : RotOp) (v : Byte) (cin : Bool) : Byte × Bool :=
  match op with
  | .rlc => ((v <<< 1) ||| carryByte (v.getLsbD 7), v.getLsbD 7)
  | .rrc => ((v >>> 1) ||| (carryByte (v.getLsbD 0) <<< 7), v.getLsbD 0)
  | .rl => ((v <<< 1) ||| carryByte cin, v.getLsbD 7)
  | .rr => ((v >>> 1) ||| (carryByte cin <<< 7), v.getLsbD 0)
  | .sla => (v <<< 1, v.getLsbD 7)
  | .sra => ((v >>> 1) ||| (v &&& 0x80#8), v.getLsbD 0)
  | .swap => ((v >>> 4) ||| (v <<< 4), false)
  | .srl => (v >>> 1, v.getLsbD 0)

/-- The rotates and shifts of the CB map: Z from the result, N and H cleared, C the bit out (R147). -/
def rotOut (op : RotOp) (v : Byte) (cin : Bool) : AluOut :=
  let r := rotate8 op v cin
  { res := r.1
    flags := { z := some (r.1 == 0#8), n := some false, h := some false, c := some r.2 } }

/-- The accumulator rotates: as the CB form, with Z cleared (R150 to R153). -/
def accRotOut (op : RotOp) (v : Byte) (cin : Bool) : AluOut :=
  let r := rotate8 op v cin
  { res := r.1, flags := { z := some false, n := some false, h := some false, c := some r.2 } }

/-- The flags of `BIT b,r`: C is left (R162). -/
def bitFlags (b : Fin 8) (v : Byte) : FlagWrite :=
  { z := some (!v.getLsbD b.val), n := some false, h := some true, c := none }

end Sys2Proof.Machine
end

