-- ==== Sys2Proof/Machine/Alu16.lean ====
section
/-! DEFINITION. The meanings of the 16-bit arithmetic (44_alu16.md). -/

namespace Sys2Proof.Machine

/-! ## Shared operations -/

/-- INC of a 16-bit register; no flag is written (R140). -/
def incReg16 (p : Reg16) (s : State) : Result := .next (s.setReg16 p (s.reg16 p + 1#16))

/-- DEC of a 16-bit register; no flag is written (R141). -/
def decReg16 (p : Reg16) (s : State) : Result := .next (s.setReg16 p (s.reg16 p - 1#16))

/-- A 16-bit register added to HL (R142). -/
def addToHL (p : Reg16) (s : State) : Result :=
  let out := add16 (s.pair .hl) (s.reg16 p)
  .next ((s.setPair .hl out.res).writeFlags out.flags)

/-! ## The instructions -/

/-- R140: `INC BC`, 0x03. -/
def exec_inc_bc (s : State) : Result := incReg16 .bc s

/-- R142: `ADD HL,BC`, 0x09. -/
def exec_add_hl_bc (s : State) : Result := addToHL .bc s

/-- R141: `DEC BC`, 0x0B. -/
def exec_dec_bc (s : State) : Result := decReg16 .bc s

/-- R140: `INC DE`, 0x13. -/
def exec_inc_de (s : State) : Result := incReg16 .de s

/-- R142: `ADD HL,DE`, 0x19. -/
def exec_add_hl_de (s : State) : Result := addToHL .de s

/-- R141: `DEC DE`, 0x1B. -/
def exec_dec_de (s : State) : Result := decReg16 .de s

/-- R140: `INC HL`, 0x23. -/
def exec_inc_hl (s : State) : Result := incReg16 .hl s

/-- R142: `ADD HL,HL`, 0x29. -/
def exec_add_hl_hl (s : State) : Result := addToHL .hl s

/-- R141: `DEC HL`, 0x2B. -/
def exec_dec_hl (s : State) : Result := decReg16 .hl s

/-- R140: `INC SP`, 0x33. -/
def exec_inc_sp (s : State) : Result := incReg16 .sp s

/-- R142: `ADD HL,SP`, 0x39. -/
def exec_add_hl_sp (s : State) : Result := addToHL .sp s

/-- R141: `DEC SP`, 0x3B. -/
def exec_dec_sp (s : State) : Result := decReg16 .sp s

/-- R144: `ADD SP,e8`, 0xE8. -/
def exec_add_sp_e8 (e8 : Byte) (s : State) : Result :=
  let out := spAdd s.sp e8
  .next (State.writeFlags { s with sp := out.res } out.flags)

end Sys2Proof.Machine
end

