-- ==== Sys2Proof/Machine/Alu8.lean ====
section
/-! DEFINITION. The meanings of the 8-bit arithmetic and logic (43_alu8.md). -/

namespace Sys2Proof.Machine

/-! ## Shared operations -/

/-- A and the flags written with a result (R121). -/
def writeA (out : AluOut) (s : State) : Result := .next ((s.setReg .a out.res).writeFlags out.flags)

/-- A binary operation on A and a byte; CP writes no register (R121, R130). -/
def aluA (op : AluOp) (v : Byte) (s : State) : State :=
  let out := aluOut op s.cfg.andSetsH s.a v (s.flag .c)
  let s₁ := if op = .cp then s else s.setReg .a out.res
  s₁.writeFlags out.flags

/-- A binary operation on A and a register or `(HL)` (R122). -/
def aluOpnd (op : AluOp) (o : Opnd8) (s : State) : Result :=
  finish (do
    let v ← readOpnd s o
    pure (aluA op v s))

/-- INC of a register or `(HL)`, read before write (R131, R132). -/
def incOpnd (o : Opnd8) (s : State) : Result :=
  finish (do
    let v ← readOpnd s o
    let s₁ ← writeOpnd s o (inc8 v).res
    pure (s₁.writeFlags (inc8 v).flags))

/-- DEC of a register or `(HL)`, read before write (R133, R134). -/
def decOpnd (o : Opnd8) (s : State) : Result :=
  finish (do
    let v ← readOpnd s o
    let s₁ ← writeOpnd s o (dec8 v).res
    pure (s₁.writeFlags (dec8 v).flags))

/-! ## The instructions -/

/-- R131: `INC B`, 0x04. -/
def exec_inc_b (s : State) : Result := incOpnd (.reg .b) s

/-- R133: `DEC B`, 0x05. -/
def exec_dec_b (s : State) : Result := decOpnd (.reg .b) s

/-- R131: `INC C`, 0x0C. -/
def exec_inc_c (s : State) : Result := incOpnd (.reg .c) s

/-- R133: `DEC C`, 0x0D. -/
def exec_dec_c (s : State) : Result := decOpnd (.reg .c) s

/-- R131: `INC D`, 0x14. -/
def exec_inc_d (s : State) : Result := incOpnd (.reg .d) s

/-- R133: `DEC D`, 0x15. -/
def exec_dec_d (s : State) : Result := decOpnd (.reg .d) s

/-- R131: `INC E`, 0x1C. -/
def exec_inc_e (s : State) : Result := incOpnd (.reg .e) s

/-- R133: `DEC E`, 0x1D. -/
def exec_dec_e (s : State) : Result := decOpnd (.reg .e) s

/-- R131: `INC H`, 0x24. -/
def exec_inc_h (s : State) : Result := incOpnd (.reg .h) s

/-- R133: `DEC H`, 0x25. -/
def exec_dec_h (s : State) : Result := decOpnd (.reg .h) s

/-- R135: `DAA`, 0x27. -/
def exec_daa (s : State) : Result := writeA (daa8 s.a (s.flag .n) (s.flag .h) (s.flag .c)) s

/-- R131: `INC L`, 0x2C. -/
def exec_inc_l (s : State) : Result := incOpnd (.reg .l) s

/-- R133: `DEC L`, 0x2D. -/
def exec_dec_l (s : State) : Result := decOpnd (.reg .l) s

/-- R136: `CPL`, 0x2F. -/
def exec_cpl (s : State) : Result :=
  writeA { res := s.a ^^^ 0xFF#8, flags := { z := none, n := some true, h := some true, c := none } } s

/-- R132: `INC (HL)`, 0x34. -/
def exec_inc_atHL (s : State) : Result := incOpnd .atHL s

/-- R134: `DEC (HL)`, 0x35. -/
def exec_dec_atHL (s : State) : Result := decOpnd .atHL s

/-- R137: `SCF`, 0x37. -/
def exec_scf (s : State) : Result :=
  .next (s.writeFlags { z := none, n := some false, h := some false, c := some true })

/-- R131: `INC A`, 0x3C. -/
def exec_inc_a (s : State) : Result := incOpnd (.reg .a) s

/-- R133: `DEC A`, 0x3D. -/
def exec_dec_a (s : State) : Result := decOpnd (.reg .a) s

/-- R138: `CCF`, 0x3F. -/
def exec_ccf (s : State) : Result :=
  .next (s.writeFlags { z := none, n := some false, h := some false, c := some (!s.flag .c) })

/-- R123: `ADD A,B`, 0x80. -/
def exec_add_a_b (s : State) : Result := aluOpnd .add (.reg .b) s

/-- R123: `ADD A,C`, 0x81. -/
def exec_add_a_c (s : State) : Result := aluOpnd .add (.reg .c) s

/-- R123: `ADD A,D`, 0x82. -/
def exec_add_a_d (s : State) : Result := aluOpnd .add (.reg .d) s

/-- R123: `ADD A,E`, 0x83. -/
def exec_add_a_e (s : State) : Result := aluOpnd .add (.reg .e) s

/-- R123: `ADD A,H`, 0x84. -/
def exec_add_a_h (s : State) : Result := aluOpnd .add (.reg .h) s

/-- R123: `ADD A,L`, 0x85. -/
def exec_add_a_l (s : State) : Result := aluOpnd .add (.reg .l) s

/-- R123: `ADD A,(HL)`, 0x86. -/
def exec_add_a_atHL (s : State) : Result := aluOpnd .add .atHL s

/-- R123: `ADD A,A`, 0x87. -/
def exec_add_a_a (s : State) : Result := aluOpnd .add (.reg .a) s

/-- R124: `ADC A,B`, 0x88. -/
def exec_adc_a_b (s : State) : Result := aluOpnd .adc (.reg .b) s

/-- R124: `ADC A,C`, 0x89. -/
def exec_adc_a_c (s : State) : Result := aluOpnd .adc (.reg .c) s

/-- R124: `ADC A,D`, 0x8A. -/
def exec_adc_a_d (s : State) : Result := aluOpnd .adc (.reg .d) s

/-- R124: `ADC A,E`, 0x8B. -/
def exec_adc_a_e (s : State) : Result := aluOpnd .adc (.reg .e) s

/-- R124: `ADC A,H`, 0x8C. -/
def exec_adc_a_h (s : State) : Result := aluOpnd .adc (.reg .h) s

/-- R124: `ADC A,L`, 0x8D. -/
def exec_adc_a_l (s : State) : Result := aluOpnd .adc (.reg .l) s

/-- R124: `ADC A,(HL)`, 0x8E. -/
def exec_adc_a_atHL (s : State) : Result := aluOpnd .adc .atHL s

/-- R124: `ADC A,A`, 0x8F. -/
def exec_adc_a_a (s : State) : Result := aluOpnd .adc (.reg .a) s

/-- R125: `SUB B`, 0x90. -/
def exec_sub_b (s : State) : Result := aluOpnd .sub (.reg .b) s

/-- R125: `SUB C`, 0x91. -/
def exec_sub_c (s : State) : Result := aluOpnd .sub (.reg .c) s

/-- R125: `SUB D`, 0x92. -/
def exec_sub_d (s : State) : Result := aluOpnd .sub (.reg .d) s

/-- R125: `SUB E`, 0x93. -/
def exec_sub_e (s : State) : Result := aluOpnd .sub (.reg .e) s

/-- R125: `SUB H`, 0x94. -/
def exec_sub_h (s : State) : Result := aluOpnd .sub (.reg .h) s

/-- R125: `SUB L`, 0x95. -/
def exec_sub_l (s : State) : Result := aluOpnd .sub (.reg .l) s

/-- R125: `SUB (HL)`, 0x96. -/
def exec_sub_atHL (s : State) : Result := aluOpnd .sub .atHL s

/-- R125: `SUB A`, 0x97. -/
def exec_sub_a (s : State) : Result := aluOpnd .sub (.reg .a) s

/-- R126: `SBC A,B`, 0x98. -/
def exec_sbc_a_b (s : State) : Result := aluOpnd .sbc (.reg .b) s

/-- R126: `SBC A,C`, 0x99. -/
def exec_sbc_a_c (s : State) : Result := aluOpnd .sbc (.reg .c) s

/-- R126: `SBC A,D`, 0x9A. -/
def exec_sbc_a_d (s : State) : Result := aluOpnd .sbc (.reg .d) s

/-- R126: `SBC A,E`, 0x9B. -/
def exec_sbc_a_e (s : State) : Result := aluOpnd .sbc (.reg .e) s

/-- R126: `SBC A,H`, 0x9C. -/
def exec_sbc_a_h (s : State) : Result := aluOpnd .sbc (.reg .h) s

/-- R126: `SBC A,L`, 0x9D. -/
def exec_sbc_a_l (s : State) : Result := aluOpnd .sbc (.reg .l) s

/-- R126: `SBC A,(HL)`, 0x9E. -/
def exec_sbc_a_atHL (s : State) : Result := aluOpnd .sbc .atHL s

/-- R126: `SBC A,A`, 0x9F. -/
def exec_sbc_a_a (s : State) : Result := aluOpnd .sbc (.reg .a) s

/-- R127: `AND B`, 0xA0. -/
def exec_and_b (s : State) : Result := aluOpnd .and (.reg .b) s

/-- R127: `AND C`, 0xA1. -/
def exec_and_c (s : State) : Result := aluOpnd .and (.reg .c) s

/-- R127: `AND D`, 0xA2. -/
def exec_and_d (s : State) : Result := aluOpnd .and (.reg .d) s

/-- R127: `AND E`, 0xA3. -/
def exec_and_e (s : State) : Result := aluOpnd .and (.reg .e) s

/-- R127: `AND H`, 0xA4. -/
def exec_and_h (s : State) : Result := aluOpnd .and (.reg .h) s

/-- R127: `AND L`, 0xA5. -/
def exec_and_l (s : State) : Result := aluOpnd .and (.reg .l) s

/-- R127: `AND (HL)`, 0xA6. -/
def exec_and_atHL (s : State) : Result := aluOpnd .and .atHL s

/-- R127: `AND A`, 0xA7. -/
def exec_and_a (s : State) : Result := aluOpnd .and (.reg .a) s

/-- R128: `XOR B`, 0xA8. -/
def exec_xor_b (s : State) : Result := aluOpnd .xor (.reg .b) s

/-- R128: `XOR C`, 0xA9. -/
def exec_xor_c (s : State) : Result := aluOpnd .xor (.reg .c) s

/-- R128: `XOR D`, 0xAA. -/
def exec_xor_d (s : State) : Result := aluOpnd .xor (.reg .d) s

/-- R128: `XOR E`, 0xAB. -/
def exec_xor_e (s : State) : Result := aluOpnd .xor (.reg .e) s

/-- R128: `XOR H`, 0xAC. -/
def exec_xor_h (s : State) : Result := aluOpnd .xor (.reg .h) s

/-- R128: `XOR L`, 0xAD. -/
def exec_xor_l (s : State) : Result := aluOpnd .xor (.reg .l) s

/-- R128: `XOR (HL)`, 0xAE. -/
def exec_xor_atHL (s : State) : Result := aluOpnd .xor .atHL s

/-- R128: `XOR A`, 0xAF. -/
def exec_xor_a (s : State) : Result := aluOpnd .xor (.reg .a) s

/-- R129: `OR B`, 0xB0. -/
def exec_or_b (s : State) : Result := aluOpnd .or (.reg .b) s

/-- R129: `OR C`, 0xB1. -/
def exec_or_c (s : State) : Result := aluOpnd .or (.reg .c) s

/-- R129: `OR D`, 0xB2. -/
def exec_or_d (s : State) : Result := aluOpnd .or (.reg .d) s

/-- R129: `OR E`, 0xB3. -/
def exec_or_e (s : State) : Result := aluOpnd .or (.reg .e) s

/-- R129: `OR H`, 0xB4. -/
def exec_or_h (s : State) : Result := aluOpnd .or (.reg .h) s

/-- R129: `OR L`, 0xB5. -/
def exec_or_l (s : State) : Result := aluOpnd .or (.reg .l) s

/-- R129: `OR (HL)`, 0xB6. -/
def exec_or_atHL (s : State) : Result := aluOpnd .or .atHL s

/-- R129: `OR A`, 0xB7. -/
def exec_or_a (s : State) : Result := aluOpnd .or (.reg .a) s

/-- R130: `CP B`, 0xB8. -/
def exec_cp_b (s : State) : Result := aluOpnd .cp (.reg .b) s

/-- R130: `CP C`, 0xB9. -/
def exec_cp_c (s : State) : Result := aluOpnd .cp (.reg .c) s

/-- R130: `CP D`, 0xBA. -/
def exec_cp_d (s : State) : Result := aluOpnd .cp (.reg .d) s

/-- R130: `CP E`, 0xBB. -/
def exec_cp_e (s : State) : Result := aluOpnd .cp (.reg .e) s

/-- R130: `CP H`, 0xBC. -/
def exec_cp_h (s : State) : Result := aluOpnd .cp (.reg .h) s

/-- R130: `CP L`, 0xBD. -/
def exec_cp_l (s : State) : Result := aluOpnd .cp (.reg .l) s

/-- R130: `CP (HL)`, 0xBE. -/
def exec_cp_atHL (s : State) : Result := aluOpnd .cp .atHL s

/-- R130: `CP A`, 0xBF. -/
def exec_cp_a (s : State) : Result := aluOpnd .cp (.reg .a) s

/-- R123: `ADD A,n8`, 0xC6. -/
def exec_add_a_n8 (n8 : Byte) (s : State) : Result := .next (aluA .add n8 s)

/-- R124: `ADC A,n8`, 0xCE. -/
def exec_adc_a_n8 (n8 : Byte) (s : State) : Result := .next (aluA .adc n8 s)

/-- R125: `SUB n8`, 0xD6. -/
def exec_sub_n8 (n8 : Byte) (s : State) : Result := .next (aluA .sub n8 s)

/-- R126: `SBC A,n8`, 0xDE. -/
def exec_sbc_a_n8 (n8 : Byte) (s : State) : Result := .next (aluA .sbc n8 s)

/-- R127: `AND n8`, 0xE6. -/
def exec_and_n8 (n8 : Byte) (s : State) : Result := .next (aluA .and n8 s)

/-- R128: `XOR n8`, 0xEE. -/
def exec_xor_n8 (n8 : Byte) (s : State) : Result := .next (aluA .xor n8 s)

/-- R129: `OR n8`, 0xF6. -/
def exec_or_n8 (n8 : Byte) (s : State) : Result := .next (aluA .or n8 s)

/-- R130: `CP n8`, 0xFE. -/
def exec_cp_n8 (n8 : Byte) (s : State) : Result := .next (aluA .cp n8 s)

end Sys2Proof.Machine
end

