-- ==== Sys2Proof/Machine/Control.lean ====
section
/-! DEFINITION. The meanings of the jumps, calls, returns and restarts (46_control.md). PC is `pc_next` when a
meaning starts, so it is the return address of a call and the base of a relative jump. A target is not
checked at the jump. -/

namespace Sys2Proof.Machine

/-! ## Shared operations -/

/-- A jump (R165, R167, R168). -/
def jumpTo (target : Word) (s : State) : Result := .next { s with pc := target }

/-- A conditional jump; not taken, it changes nothing (R88, R166, R169). -/
def jumpIf (cc : Cond) (target : Word) (s : State) : Result :=
  if s.holds cc then jumpTo target s else .next s

/-- A call: `pc_next` is pushed (R170, R175). -/
def callTo (target : Word) (s : State) : Result :=
  finish (do
    let s₁ ← push16 s s.pc
    pure { s₁ with pc := target })

/-- A conditional call; not taken, it pushes nothing (R88, R171). -/
def callIf (cc : Cond) (target : Word) (s : State) : Result :=
  if s.holds cc then callTo target s else .next s

/-- PC popped (R172). -/
def returnFrom (s : State) : Except Fault State := do
  let (v, s₁) ← pop16 s
  pure { s₁ with pc := v }

/-- A conditional return; not taken, it pops nothing (R88, R173). -/
def returnIf (cc : Cond) (s : State) : Result :=
  if s.holds cc then finish (returnFrom s) else .next s

/-! ## The instructions -/

/-- R168: `JR e8`, 0x18. -/
def exec_jr_e8 (e8 : Byte) (s : State) : Result := jumpTo (relativeTarget s.pc e8) s

/-- R169: `JR NZ,e8`, 0x20. -/
def exec_jr_nz_e8 (e8 : Byte) (s : State) : Result := jumpIf .nz (relativeTarget s.pc e8) s

/-- R169: `JR Z,e8`, 0x28. -/
def exec_jr_z_e8 (e8 : Byte) (s : State) : Result := jumpIf .z (relativeTarget s.pc e8) s

/-- R169: `JR NC,e8`, 0x30. -/
def exec_jr_nc_e8 (e8 : Byte) (s : State) : Result := jumpIf .nc (relativeTarget s.pc e8) s

/-- R169: `JR C,e8`, 0x38. -/
def exec_jr_c_e8 (e8 : Byte) (s : State) : Result := jumpIf .c (relativeTarget s.pc e8) s

/-- R173: `RET NZ`, 0xC0. -/
def exec_ret_nz (s : State) : Result := returnIf .nz s

/-- R166: `JP NZ,a16`, 0xC2. -/
def exec_jp_nz_a16 (a16 : Word) (s : State) : Result := jumpIf .nz a16 s

/-- R165: `JP a16`, 0xC3. -/
def exec_jp_a16 (a16 : Word) (s : State) : Result := jumpTo a16 s

/-- R171: `CALL NZ,a16`, 0xC4. -/
def exec_call_nz_a16 (a16 : Word) (s : State) : Result := callIf .nz a16 s

/-- R175: `RST 00h`, 0xC7. -/
def exec_rst_00h (s : State) : Result := callTo (restartTarget 0) s

/-- R173: `RET Z`, 0xC8. -/
def exec_ret_z (s : State) : Result := returnIf .z s

/-- R172: `RET`, 0xC9. -/
def exec_ret (s : State) : Result := finish (returnFrom s)

/-- R166: `JP Z,a16`, 0xCA. -/
def exec_jp_z_a16 (a16 : Word) (s : State) : Result := jumpIf .z a16 s

/-- R171: `CALL Z,a16`, 0xCC. -/
def exec_call_z_a16 (a16 : Word) (s : State) : Result := callIf .z a16 s

/-- R170: `CALL a16`, 0xCD. -/
def exec_call_a16 (a16 : Word) (s : State) : Result := callTo a16 s

/-- R175: `RST 08h`, 0xCF. -/
def exec_rst_08h (s : State) : Result := callTo (restartTarget 1) s

/-- R173: `RET NC`, 0xD0. -/
def exec_ret_nc (s : State) : Result := returnIf .nc s

/-- R166: `JP NC,a16`, 0xD2. -/
def exec_jp_nc_a16 (a16 : Word) (s : State) : Result := jumpIf .nc a16 s

/-- R171: `CALL NC,a16`, 0xD4. -/
def exec_call_nc_a16 (a16 : Word) (s : State) : Result := callIf .nc a16 s

/-- R175: `RST 10h`, 0xD7. -/
def exec_rst_10h (s : State) : Result := callTo (restartTarget 2) s

/-- R173: `RET C`, 0xD8. -/
def exec_ret_c (s : State) : Result := returnIf .c s

/-- R174: `RETI`, 0xD9. -/
def exec_reti (s : State) : Result :=
  finish (do
    let s₁ ← returnFrom s
    pure { s₁ with ime := true })

/-- R166: `JP C,a16`, 0xDA. -/
def exec_jp_c_a16 (a16 : Word) (s : State) : Result := jumpIf .c a16 s

/-- R171: `CALL C,a16`, 0xDC. -/
def exec_call_c_a16 (a16 : Word) (s : State) : Result := callIf .c a16 s

/-- R175: `RST 18h`, 0xDF. -/
def exec_rst_18h (s : State) : Result := callTo (restartTarget 3) s

/-- R175: `RST 20h`, 0xE7. -/
def exec_rst_20h (s : State) : Result := callTo (restartTarget 4) s

/-- R167: `JP (HL)`, 0xE9. -/
def exec_jp_atHL (s : State) : Result := jumpTo (s.pair .hl) s

/-- R175: `RST 28h`, 0xEF. -/
def exec_rst_28h (s : State) : Result := callTo (restartTarget 5) s

/-- R175: `RST 30h`, 0xF7. -/
def exec_rst_30h (s : State) : Result := callTo (restartTarget 6) s

/-- R175: `RST 38h`, 0xFF. -/
def exec_rst_38h (s : State) : Result := callTo (restartTarget 7) s

end Sys2Proof.Machine
end

