-- ==== Sys2Proof/Machine/Load16.lean ====
section
/-! DEFINITION. The meanings of the 16-bit loads and of the stack operations (42_load16_stack.md). -/

namespace Sys2Proof.Machine

/-! ## Shared operations -/

/-- A 16-bit immediate loaded into a register (R114). -/
def loadReg16 (p : Reg16) (n16 : Word) (s : State) : Result := .next (s.setReg16 p n16)

/-- A pair pushed (R118). -/
def pushPair (q : Pair) (s : State) : Result := finish (push16 s (s.pair q))

/-- A pair popped; a popped F has bits 3..0 cleared (R119, R120). -/
def popPair (q : Pair) (s : State) : Result :=
  finish (do
    let (v, s₁) ← pop16 s
    pure (s₁.setPair q v))

/-! ## The instructions -/

/-- R114: `LD BC,n16`, 0x01. -/
def exec_ld_bc_n16 (n16 : Word) (s : State) : Result := loadReg16 .bc n16 s

/-- R116: `LD (a16),SP`, 0x08. -/
def exec_ld_atA16_sp (a16 : Word) (s : State) : Result := finish (memWrite16 s a16 s.sp)

/-- R114: `LD DE,n16`, 0x11. -/
def exec_ld_de_n16 (n16 : Word) (s : State) : Result := loadReg16 .de n16 s

/-- R114: `LD HL,n16`, 0x21. -/
def exec_ld_hl_n16 (n16 : Word) (s : State) : Result := loadReg16 .hl n16 s

/-- R114: `LD SP,n16`, 0x31. -/
def exec_ld_sp_n16 (n16 : Word) (s : State) : Result := loadReg16 .sp n16 s

/-- R119: `POP BC`, 0xC1. -/
def exec_pop_bc (s : State) : Result := popPair .bc s

/-- R118: `PUSH BC`, 0xC5. -/
def exec_push_bc (s : State) : Result := pushPair .bc s

/-- R119: `POP DE`, 0xD1. -/
def exec_pop_de (s : State) : Result := popPair .de s

/-- R118: `PUSH DE`, 0xD5. -/
def exec_push_de (s : State) : Result := pushPair .de s

/-- R119: `POP HL`, 0xE1. -/
def exec_pop_hl (s : State) : Result := popPair .hl s

/-- R118: `PUSH HL`, 0xE5. -/
def exec_push_hl (s : State) : Result := pushPair .hl s

/-- R120: `POP AF`, 0xF1. -/
def exec_pop_af (s : State) : Result := popPair .af s

/-- R118: `PUSH AF`, 0xF5. -/
def exec_push_af (s : State) : Result := pushPair .af s

/-- R117: `LD HL,SP+e8`, 0xF8. -/
def exec_ld_hl_spE8 (e8 : Byte) (s : State) : Result :=
  let out := spAdd s.sp e8
  .next ((s.setPair .hl out.res).writeFlags out.flags)

/-- R115: `LD SP,HL`, 0xF9. -/
def exec_ld_sp_hl (s : State) : Result := .next { s with sp := s.pair .hl }

end Sys2Proof.Machine
end

