-- ==== Sys2Proof/Machine/Load8.lean ====
section
/-! DEFINITION. The meanings of the 8-bit loads and stores (41_load8.md). A meaning starts after the fetch, so
PC is `pc_next` (R13, log entry 8). No load or store here writes a flag. -/

namespace Sys2Proof.Machine

/-! ## Shared operations -/

/-- A register copied into a register (R95). -/
def loadRegReg (dst r : Reg8) (s : State) : Result := .next (s.setReg dst (s.reg r))

/-- An immediate byte loaded into a register (R96). -/
def loadRegImm (dst : Reg8) (n8 : Byte) (s : State) : Result := .next (s.setReg dst n8)

/-- A register loaded from an address (R97, R104, R105, R108, R110, R112). -/
def loadReg (dst : Reg8) (addr : Word) (s : State) : Result :=
  finish (do
    let v ← memRead s addr
    pure (s.setReg dst v))

/-- A byte stored at an address (R98, R99, R106, R107, R109, R111, R113). -/
def storeByte (addr : Word) (v : Byte) (s : State) : Result := finish (memWrite s addr v)

/-- A loaded from the address in HL, and then HL replaced (R101, R103). -/
def loadAStep (newHL : Word) (s : State) : Result :=
  finish (do
    let v ← memRead s (s.pair .hl)
    pure ((s.setReg .a v).setPair .hl newHL))

/-- A stored at the address in HL, and then HL replaced (R100, R102). -/
def storeAStep (newHL : Word) (s : State) : Result :=
  finish (do
    let s₁ ← memWrite s (s.pair .hl) s.a
    pure (s₁.setPair .hl newHL))

/-! ## The instructions -/

/-- R106: `LD (BC),A`, 0x02. -/
def exec_ld_atBC_a (s : State) : Result := storeByte (s.pair .bc) s.a s

/-- R96: `LD B,n8`, 0x06. -/
def exec_ld_b_n8 (n8 : Byte) (s : State) : Result := loadRegImm .b n8 s

/-- R104: `LD A,(BC)`, 0x0A. -/
def exec_ld_a_atBC (s : State) : Result := loadReg .a (s.pair .bc) s

/-- R96: `LD C,n8`, 0x0E. -/
def exec_ld_c_n8 (n8 : Byte) (s : State) : Result := loadRegImm .c n8 s

/-- R107: `LD (DE),A`, 0x12. -/
def exec_ld_atDE_a (s : State) : Result := storeByte (s.pair .de) s.a s

/-- R96: `LD D,n8`, 0x16. -/
def exec_ld_d_n8 (n8 : Byte) (s : State) : Result := loadRegImm .d n8 s

/-- R105: `LD A,(DE)`, 0x1A. -/
def exec_ld_a_atDE (s : State) : Result := loadReg .a (s.pair .de) s

/-- R96: `LD E,n8`, 0x1E. -/
def exec_ld_e_n8 (n8 : Byte) (s : State) : Result := loadRegImm .e n8 s

/-- R100: `LD (HL+),A`, 0x22. -/
def exec_ld_atHLInc_a (s : State) : Result := storeAStep (s.pair .hl + 1#16) s

/-- R96: `LD H,n8`, 0x26. -/
def exec_ld_h_n8 (n8 : Byte) (s : State) : Result := loadRegImm .h n8 s

/-- R101: `LD A,(HL+)`, 0x2A. -/
def exec_ld_a_atHLInc (s : State) : Result := loadAStep (s.pair .hl + 1#16) s

/-- R96: `LD L,n8`, 0x2E. -/
def exec_ld_l_n8 (n8 : Byte) (s : State) : Result := loadRegImm .l n8 s

/-- R102: `LD (HL-),A`, 0x32. -/
def exec_ld_atHLDec_a (s : State) : Result := storeAStep (s.pair .hl - 1#16) s

/-- R99: `LD (HL),n8`, 0x36. -/
def exec_ld_atHL_n8 (n8 : Byte) (s : State) : Result := storeByte (s.pair .hl) n8 s

/-- R103: `LD A,(HL-)`, 0x3A. -/
def exec_ld_a_atHLDec (s : State) : Result := loadAStep (s.pair .hl - 1#16) s

/-- R96: `LD A,n8`, 0x3E. -/
def exec_ld_a_n8 (n8 : Byte) (s : State) : Result := loadRegImm .a n8 s

/-- R95: `LD B,B`, 0x40. -/
def exec_ld_b_b (s : State) : Result := loadRegReg .b .b s

/-- R95: `LD B,C`, 0x41. -/
def exec_ld_b_c (s : State) : Result := loadRegReg .b .c s

/-- R95: `LD B,D`, 0x42. -/
def exec_ld_b_d (s : State) : Result := loadRegReg .b .d s

/-- R95: `LD B,E`, 0x43. -/
def exec_ld_b_e (s : State) : Result := loadRegReg .b .e s

/-- R95: `LD B,H`, 0x44. -/
def exec_ld_b_h (s : State) : Result := loadRegReg .b .h s

/-- R95: `LD B,L`, 0x45. -/
def exec_ld_b_l (s : State) : Result := loadRegReg .b .l s

/-- R97: `LD B,(HL)`, 0x46. -/
def exec_ld_b_atHL (s : State) : Result := loadReg .b (s.pair .hl) s

/-- R95: `LD B,A`, 0x47. -/
def exec_ld_b_a (s : State) : Result := loadRegReg .b .a s

/-- R95: `LD C,B`, 0x48. -/
def exec_ld_c_b (s : State) : Result := loadRegReg .c .b s

/-- R95: `LD C,C`, 0x49. -/
def exec_ld_c_c (s : State) : Result := loadRegReg .c .c s

/-- R95: `LD C,D`, 0x4A. -/
def exec_ld_c_d (s : State) : Result := loadRegReg .c .d s

/-- R95: `LD C,E`, 0x4B. -/
def exec_ld_c_e (s : State) : Result := loadRegReg .c .e s

/-- R95: `LD C,H`, 0x4C. -/
def exec_ld_c_h (s : State) : Result := loadRegReg .c .h s

/-- R95: `LD C,L`, 0x4D. -/
def exec_ld_c_l (s : State) : Result := loadRegReg .c .l s

/-- R97: `LD C,(HL)`, 0x4E. -/
def exec_ld_c_atHL (s : State) : Result := loadReg .c (s.pair .hl) s

/-- R95: `LD C,A`, 0x4F. -/
def exec_ld_c_a (s : State) : Result := loadRegReg .c .a s

/-- R95: `LD D,B`, 0x50. -/
def exec_ld_d_b (s : State) : Result := loadRegReg .d .b s

/-- R95: `LD D,C`, 0x51. -/
def exec_ld_d_c (s : State) : Result := loadRegReg .d .c s

/-- R95: `LD D,D`, 0x52. -/
def exec_ld_d_d (s : State) : Result := loadRegReg .d .d s

/-- R95: `LD D,E`, 0x53. -/
def exec_ld_d_e (s : State) : Result := loadRegReg .d .e s

/-- R95: `LD D,H`, 0x54. -/
def exec_ld_d_h (s : State) : Result := loadRegReg .d .h s

/-- R95: `LD D,L`, 0x55. -/
def exec_ld_d_l (s : State) : Result := loadRegReg .d .l s

/-- R97: `LD D,(HL)`, 0x56. -/
def exec_ld_d_atHL (s : State) : Result := loadReg .d (s.pair .hl) s

/-- R95: `LD D,A`, 0x57. -/
def exec_ld_d_a (s : State) : Result := loadRegReg .d .a s

/-- R95: `LD E,B`, 0x58. -/
def exec_ld_e_b (s : State) : Result := loadRegReg .e .b s

/-- R95: `LD E,C`, 0x59. -/
def exec_ld_e_c (s : State) : Result := loadRegReg .e .c s

/-- R95: `LD E,D`, 0x5A. -/
def exec_ld_e_d (s : State) : Result := loadRegReg .e .d s

/-- R95: `LD E,E`, 0x5B. -/
def exec_ld_e_e (s : State) : Result := loadRegReg .e .e s

/-- R95: `LD E,H`, 0x5C. -/
def exec_ld_e_h (s : State) : Result := loadRegReg .e .h s

/-- R95: `LD E,L`, 0x5D. -/
def exec_ld_e_l (s : State) : Result := loadRegReg .e .l s

/-- R97: `LD E,(HL)`, 0x5E. -/
def exec_ld_e_atHL (s : State) : Result := loadReg .e (s.pair .hl) s

/-- R95: `LD E,A`, 0x5F. -/
def exec_ld_e_a (s : State) : Result := loadRegReg .e .a s

/-- R95: `LD H,B`, 0x60. -/
def exec_ld_h_b (s : State) : Result := loadRegReg .h .b s

/-- R95: `LD H,C`, 0x61. -/
def exec_ld_h_c (s : State) : Result := loadRegReg .h .c s

/-- R95: `LD H,D`, 0x62. -/
def exec_ld_h_d (s : State) : Result := loadRegReg .h .d s

/-- R95: `LD H,E`, 0x63. -/
def exec_ld_h_e (s : State) : Result := loadRegReg .h .e s

/-- R95: `LD H,H`, 0x64. -/
def exec_ld_h_h (s : State) : Result := loadRegReg .h .h s

/-- R95: `LD H,L`, 0x65. -/
def exec_ld_h_l (s : State) : Result := loadRegReg .h .l s

/-- R97: `LD H,(HL)`, 0x66. -/
def exec_ld_h_atHL (s : State) : Result := loadReg .h (s.pair .hl) s

/-- R95: `LD H,A`, 0x67. -/
def exec_ld_h_a (s : State) : Result := loadRegReg .h .a s

/-- R95: `LD L,B`, 0x68. -/
def exec_ld_l_b (s : State) : Result := loadRegReg .l .b s

/-- R95: `LD L,C`, 0x69. -/
def exec_ld_l_c (s : State) : Result := loadRegReg .l .c s

/-- R95: `LD L,D`, 0x6A. -/
def exec_ld_l_d (s : State) : Result := loadRegReg .l .d s

/-- R95: `LD L,E`, 0x6B. -/
def exec_ld_l_e (s : State) : Result := loadRegReg .l .e s

/-- R95: `LD L,H`, 0x6C. -/
def exec_ld_l_h (s : State) : Result := loadRegReg .l .h s

/-- R95: `LD L,L`, 0x6D. -/
def exec_ld_l_l (s : State) : Result := loadRegReg .l .l s

/-- R97: `LD L,(HL)`, 0x6E. -/
def exec_ld_l_atHL (s : State) : Result := loadReg .l (s.pair .hl) s

/-- R95: `LD L,A`, 0x6F. -/
def exec_ld_l_a (s : State) : Result := loadRegReg .l .a s

/-- R98: `LD (HL),B`, 0x70. -/
def exec_ld_atHL_b (s : State) : Result := storeByte (s.pair .hl) (s.reg .b) s

/-- R98: `LD (HL),C`, 0x71. -/
def exec_ld_atHL_c (s : State) : Result := storeByte (s.pair .hl) (s.reg .c) s

/-- R98: `LD (HL),D`, 0x72. -/
def exec_ld_atHL_d (s : State) : Result := storeByte (s.pair .hl) (s.reg .d) s

/-- R98: `LD (HL),E`, 0x73. -/
def exec_ld_atHL_e (s : State) : Result := storeByte (s.pair .hl) (s.reg .e) s

/-- R98: `LD (HL),H`, 0x74. -/
def exec_ld_atHL_h (s : State) : Result := storeByte (s.pair .hl) (s.reg .h) s

/-- R98: `LD (HL),L`, 0x75. -/
def exec_ld_atHL_l (s : State) : Result := storeByte (s.pair .hl) (s.reg .l) s

/-- R98: `LD (HL),A`, 0x77. -/
def exec_ld_atHL_a (s : State) : Result := storeByte (s.pair .hl) (s.reg .a) s

/-- R95: `LD A,B`, 0x78. -/
def exec_ld_a_b (s : State) : Result := loadRegReg .a .b s

/-- R95: `LD A,C`, 0x79. -/
def exec_ld_a_c (s : State) : Result := loadRegReg .a .c s

/-- R95: `LD A,D`, 0x7A. -/
def exec_ld_a_d (s : State) : Result := loadRegReg .a .d s

/-- R95: `LD A,E`, 0x7B. -/
def exec_ld_a_e (s : State) : Result := loadRegReg .a .e s

/-- R95: `LD A,H`, 0x7C. -/
def exec_ld_a_h (s : State) : Result := loadRegReg .a .h s

/-- R95: `LD A,L`, 0x7D. -/
def exec_ld_a_l (s : State) : Result := loadRegReg .a .l s

/-- R97: `LD A,(HL)`, 0x7E. -/
def exec_ld_a_atHL (s : State) : Result := loadReg .a (s.pair .hl) s

/-- R95: `LD A,A`, 0x7F. -/
def exec_ld_a_a (s : State) : Result := loadRegReg .a .a s

/-- R111: `LDH (a8),A`, 0xE0. -/
def exec_ldh_atA8_a (a8 : Byte) (s : State) : Result := storeByte (highPage a8) s.a s

/-- R113: `LD (C),A`, 0xE2. -/
def exec_ld_atC_a (s : State) : Result := storeByte (highPage s.c) s.a s

/-- R109: `LD (a16),A`, 0xEA. -/
def exec_ld_atA16_a (a16 : Word) (s : State) : Result := storeByte a16 s.a s

/-- R110: `LDH A,(a8)`, 0xF0. -/
def exec_ldh_a_atA8 (a8 : Byte) (s : State) : Result := loadReg .a (highPage a8) s

/-- R112: `LD A,(C)`, 0xF2. -/
def exec_ld_a_atC (s : State) : Result := loadReg .a (highPage s.c) s

/-- R108: `LD A,(a16)`, 0xFA. -/
def exec_ld_a_atA16 (a16 : Word) (s : State) : Result := loadReg .a a16 s

end Sys2Proof.Machine
end

