-- ==== Sys2Proof/Machine/Rotate.lean ====
section
/-! DEFINITION. The meanings of the accumulator rotates and of the CB map (45_rotate_shift_bit.md). -/

namespace Sys2Proof.Machine

/-! ## Shared operations -/

/-- A CB instruction runs only when `CB_ENABLED` is true; otherwise its step faults at the 0xCB byte, two bytes
before `pc_next` (R149, R181, log entry 11). -/
def cbOnly (s : State) (r : Result) : Result :=
  if s.cfg.cbEnabled then r else raise (.unimplementedOpcode 0xCB#8 (s.pc - 2#16))

/-- A rotate or shift of a register or `(HL)`, read before write (R147, R149, R154 to R161). -/
def rotOpnd (op : RotOp) (o : Opnd8) (s : State) : Result :=
  finish (do
    let v ← readOpnd s o
    let s₁ ← writeOpnd s o (rotOut op v (s.flag .c)).res
    pure (s₁.writeFlags (rotOut op v (s.flag .c)).flags))

/-- A bit tested; nothing is written except F (R162). -/
def bitOpnd (b : Fin 8) (o : Opnd8) (s : State) : Result :=
  finish (do
    let v ← readOpnd s o
    pure (s.writeFlags (bitFlags b v)))

/-- A bit cleared; no flag is written (R163). -/
def resOpnd (b : Fin 8) (o : Opnd8) (s : State) : Result :=
  finish (do
    let v ← readOpnd s o
    writeOpnd s o (putBit v b.val false))

/-- A bit set; no flag is written (R164). -/
def setOpnd (b : Fin 8) (o : Opnd8) (s : State) : Result :=
  finish (do
    let v ← readOpnd s o
    writeOpnd s o (putBit v b.val true))

/-- The rule that a CB opcode selects, read from its fields (R77). -/
def runCbOpcode (o : Byte) (s : State) : Result :=
  match xField o with
  | 0 => rotOpnd (rotOfCode (yField o)) (opnd8OfCode (zField o)) s
  | 1 => bitOpnd (Fin.ofNat 8 (yField o)) (opnd8OfCode (zField o)) s
  | 2 => resOpnd (Fin.ofNat 8 (yField o)) (opnd8OfCode (zField o)) s
  | _ => setOpnd (Fin.ofNat 8 (yField o)) (opnd8OfCode (zField o)) s

/-! ## The instructions -/

/-- R150: `RLCA`, 0x07. -/
def exec_rlca (s : State) : Result := writeA (accRotOut .rlc s.a (s.flag .c)) s

/-- R151: `RRCA`, 0x0F. -/
def exec_rrca (s : State) : Result := writeA (accRotOut .rrc s.a (s.flag .c)) s

/-- R152: `RLA`, 0x17. -/
def exec_rla (s : State) : Result := writeA (accRotOut .rl s.a (s.flag .c)) s

/-- R153: `RRA`, 0x1F. -/
def exec_rra (s : State) : Result := writeA (accRotOut .rr s.a (s.flag .c)) s

/-- R154: `RLC B`, 0xCB 0x00. -/
def exec_rlc_b (s : State) : Result := cbOnly s (rotOpnd .rlc (.reg .b) s)

/-- R154: `RLC C`, 0xCB 0x01. -/
def exec_rlc_c (s : State) : Result := cbOnly s (rotOpnd .rlc (.reg .c) s)

/-- R154: `RLC D`, 0xCB 0x02. -/
def exec_rlc_d (s : State) : Result := cbOnly s (rotOpnd .rlc (.reg .d) s)

/-- R154: `RLC E`, 0xCB 0x03. -/
def exec_rlc_e (s : State) : Result := cbOnly s (rotOpnd .rlc (.reg .e) s)

/-- R154: `RLC H`, 0xCB 0x04. -/
def exec_rlc_h (s : State) : Result := cbOnly s (rotOpnd .rlc (.reg .h) s)

/-- R154: `RLC L`, 0xCB 0x05. -/
def exec_rlc_l (s : State) : Result := cbOnly s (rotOpnd .rlc (.reg .l) s)

/-- R154: `RLC (HL)`, 0xCB 0x06. -/
def exec_rlc_atHL (s : State) : Result := cbOnly s (rotOpnd .rlc .atHL s)

/-- R154: `RLC A`, 0xCB 0x07. -/
def exec_rlc_a (s : State) : Result := cbOnly s (rotOpnd .rlc (.reg .a) s)

/-- R155: `RRC B`, 0xCB 0x08. -/
def exec_rrc_b (s : State) : Result := cbOnly s (rotOpnd .rrc (.reg .b) s)

/-- R155: `RRC C`, 0xCB 0x09. -/
def exec_rrc_c (s : State) : Result := cbOnly s (rotOpnd .rrc (.reg .c) s)

/-- R155: `RRC D`, 0xCB 0x0A. -/
def exec_rrc_d (s : State) : Result := cbOnly s (rotOpnd .rrc (.reg .d) s)

/-- R155: `RRC E`, 0xCB 0x0B. -/
def exec_rrc_e (s : State) : Result := cbOnly s (rotOpnd .rrc (.reg .e) s)

/-- R155: `RRC H`, 0xCB 0x0C. -/
def exec_rrc_h (s : State) : Result := cbOnly s (rotOpnd .rrc (.reg .h) s)

/-- R155: `RRC L`, 0xCB 0x0D. -/
def exec_rrc_l (s : State) : Result := cbOnly s (rotOpnd .rrc (.reg .l) s)

/-- R155: `RRC (HL)`, 0xCB 0x0E. -/
def exec_rrc_atHL (s : State) : Result := cbOnly s (rotOpnd .rrc .atHL s)

/-- R155: `RRC A`, 0xCB 0x0F. -/
def exec_rrc_a (s : State) : Result := cbOnly s (rotOpnd .rrc (.reg .a) s)

/-- R156: `RL B`, 0xCB 0x10. -/
def exec_rl_b (s : State) : Result := cbOnly s (rotOpnd .rl (.reg .b) s)

/-- R156: `RL C`, 0xCB 0x11. -/
def exec_rl_c (s : State) : Result := cbOnly s (rotOpnd .rl (.reg .c) s)

/-- R156: `RL D`, 0xCB 0x12. -/
def exec_rl_d (s : State) : Result := cbOnly s (rotOpnd .rl (.reg .d) s)

/-- R156: `RL E`, 0xCB 0x13. -/
def exec_rl_e (s : State) : Result := cbOnly s (rotOpnd .rl (.reg .e) s)

/-- R156: `RL H`, 0xCB 0x14. -/
def exec_rl_h (s : State) : Result := cbOnly s (rotOpnd .rl (.reg .h) s)

/-- R156: `RL L`, 0xCB 0x15. -/
def exec_rl_l (s : State) : Result := cbOnly s (rotOpnd .rl (.reg .l) s)

/-- R156: `RL (HL)`, 0xCB 0x16. -/
def exec_rl_atHL (s : State) : Result := cbOnly s (rotOpnd .rl .atHL s)

/-- R156: `RL A`, 0xCB 0x17. -/
def exec_rl_a (s : State) : Result := cbOnly s (rotOpnd .rl (.reg .a) s)

/-- R157: `RR B`, 0xCB 0x18. -/
def exec_rr_b (s : State) : Result := cbOnly s (rotOpnd .rr (.reg .b) s)

/-- R157: `RR C`, 0xCB 0x19. -/
def exec_rr_c (s : State) : Result := cbOnly s (rotOpnd .rr (.reg .c) s)

/-- R157: `RR D`, 0xCB 0x1A. -/
def exec_rr_d (s : State) : Result := cbOnly s (rotOpnd .rr (.reg .d) s)

/-- R157: `RR E`, 0xCB 0x1B. -/
def exec_rr_e (s : State) : Result := cbOnly s (rotOpnd .rr (.reg .e) s)

/-- R157: `RR H`, 0xCB 0x1C. -/
def exec_rr_h (s : State) : Result := cbOnly s (rotOpnd .rr (.reg .h) s)

/-- R157: `RR L`, 0xCB 0x1D. -/
def exec_rr_l (s : State) : Result := cbOnly s (rotOpnd .rr (.reg .l) s)

/-- R157: `RR (HL)`, 0xCB 0x1E. -/
def exec_rr_atHL (s : State) : Result := cbOnly s (rotOpnd .rr .atHL s)

/-- R157: `RR A`, 0xCB 0x1F. -/
def exec_rr_a (s : State) : Result := cbOnly s (rotOpnd .rr (.reg .a) s)

/-- R158: `SLA B`, 0xCB 0x20. -/
def exec_sla_b (s : State) : Result := cbOnly s (rotOpnd .sla (.reg .b) s)

/-- R158: `SLA C`, 0xCB 0x21. -/
def exec_sla_c (s : State) : Result := cbOnly s (rotOpnd .sla (.reg .c) s)

/-- R158: `SLA D`, 0xCB 0x22. -/
def exec_sla_d (s : State) : Result := cbOnly s (rotOpnd .sla (.reg .d) s)

/-- R158: `SLA E`, 0xCB 0x23. -/
def exec_sla_e (s : State) : Result := cbOnly s (rotOpnd .sla (.reg .e) s)

/-- R158: `SLA H`, 0xCB 0x24. -/
def exec_sla_h (s : State) : Result := cbOnly s (rotOpnd .sla (.reg .h) s)

/-- R158: `SLA L`, 0xCB 0x25. -/
def exec_sla_l (s : State) : Result := cbOnly s (rotOpnd .sla (.reg .l) s)

/-- R158: `SLA (HL)`, 0xCB 0x26. -/
def exec_sla_atHL (s : State) : Result := cbOnly s (rotOpnd .sla .atHL s)

/-- R158: `SLA A`, 0xCB 0x27. -/
def exec_sla_a (s : State) : Result := cbOnly s (rotOpnd .sla (.reg .a) s)

/-- R159: `SRA B`, 0xCB 0x28. -/
def exec_sra_b (s : State) : Result := cbOnly s (rotOpnd .sra (.reg .b) s)

/-- R159: `SRA C`, 0xCB 0x29. -/
def exec_sra_c (s : State) : Result := cbOnly s (rotOpnd .sra (.reg .c) s)

/-- R159: `SRA D`, 0xCB 0x2A. -/
def exec_sra_d (s : State) : Result := cbOnly s (rotOpnd .sra (.reg .d) s)

/-- R159: `SRA E`, 0xCB 0x2B. -/
def exec_sra_e (s : State) : Result := cbOnly s (rotOpnd .sra (.reg .e) s)

/-- R159: `SRA H`, 0xCB 0x2C. -/
def exec_sra_h (s : State) : Result := cbOnly s (rotOpnd .sra (.reg .h) s)

/-- R159: `SRA L`, 0xCB 0x2D. -/
def exec_sra_l (s : State) : Result := cbOnly s (rotOpnd .sra (.reg .l) s)

/-- R159: `SRA (HL)`, 0xCB 0x2E. -/
def exec_sra_atHL (s : State) : Result := cbOnly s (rotOpnd .sra .atHL s)

/-- R159: `SRA A`, 0xCB 0x2F. -/
def exec_sra_a (s : State) : Result := cbOnly s (rotOpnd .sra (.reg .a) s)

/-- R160: `SWAP B`, 0xCB 0x30. -/
def exec_swap_b (s : State) : Result := cbOnly s (rotOpnd .swap (.reg .b) s)

/-- R160: `SWAP C`, 0xCB 0x31. -/
def exec_swap_c (s : State) : Result := cbOnly s (rotOpnd .swap (.reg .c) s)

/-- R160: `SWAP D`, 0xCB 0x32. -/
def exec_swap_d (s : State) : Result := cbOnly s (rotOpnd .swap (.reg .d) s)

/-- R160: `SWAP E`, 0xCB 0x33. -/
def exec_swap_e (s : State) : Result := cbOnly s (rotOpnd .swap (.reg .e) s)

/-- R160: `SWAP H`, 0xCB 0x34. -/
def exec_swap_h (s : State) : Result := cbOnly s (rotOpnd .swap (.reg .h) s)

/-- R160: `SWAP L`, 0xCB 0x35. -/
def exec_swap_l (s : State) : Result := cbOnly s (rotOpnd .swap (.reg .l) s)

/-- R160: `SWAP (HL)`, 0xCB 0x36. -/
def exec_swap_atHL (s : State) : Result := cbOnly s (rotOpnd .swap .atHL s)

/-- R160: `SWAP A`, 0xCB 0x37. -/
def exec_swap_a (s : State) : Result := cbOnly s (rotOpnd .swap (.reg .a) s)

/-- R161: `SRL B`, 0xCB 0x38. -/
def exec_srl_b (s : State) : Result := cbOnly s (rotOpnd .srl (.reg .b) s)

/-- R161: `SRL C`, 0xCB 0x39. -/
def exec_srl_c (s : State) : Result := cbOnly s (rotOpnd .srl (.reg .c) s)

/-- R161: `SRL D`, 0xCB 0x3A. -/
def exec_srl_d (s : State) : Result := cbOnly s (rotOpnd .srl (.reg .d) s)

/-- R161: `SRL E`, 0xCB 0x3B. -/
def exec_srl_e (s : State) : Result := cbOnly s (rotOpnd .srl (.reg .e) s)

/-- R161: `SRL H`, 0xCB 0x3C. -/
def exec_srl_h (s : State) : Result := cbOnly s (rotOpnd .srl (.reg .h) s)

/-- R161: `SRL L`, 0xCB 0x3D. -/
def exec_srl_l (s : State) : Result := cbOnly s (rotOpnd .srl (.reg .l) s)

/-- R161: `SRL (HL)`, 0xCB 0x3E. -/
def exec_srl_atHL (s : State) : Result := cbOnly s (rotOpnd .srl .atHL s)

/-- R161: `SRL A`, 0xCB 0x3F. -/
def exec_srl_a (s : State) : Result := cbOnly s (rotOpnd .srl (.reg .a) s)

/-- R162: `BIT 0,B`, 0xCB 0x40. -/
def exec_bit_0_b (s : State) : Result := cbOnly s (bitOpnd 0 (.reg .b) s)

/-- R162: `BIT 0,C`, 0xCB 0x41. -/
def exec_bit_0_c (s : State) : Result := cbOnly s (bitOpnd 0 (.reg .c) s)

/-- R162: `BIT 0,D`, 0xCB 0x42. -/
def exec_bit_0_d (s : State) : Result := cbOnly s (bitOpnd 0 (.reg .d) s)

/-- R162: `BIT 0,E`, 0xCB 0x43. -/
def exec_bit_0_e (s : State) : Result := cbOnly s (bitOpnd 0 (.reg .e) s)

/-- R162: `BIT 0,H`, 0xCB 0x44. -/
def exec_bit_0_h (s : State) : Result := cbOnly s (bitOpnd 0 (.reg .h) s)

/-- R162: `BIT 0,L`, 0xCB 0x45. -/
def exec_bit_0_l (s : State) : Result := cbOnly s (bitOpnd 0 (.reg .l) s)

/-- R162: `BIT 0,(HL)`, 0xCB 0x46. -/
def exec_bit_0_atHL (s : State) : Result := cbOnly s (bitOpnd 0 .atHL s)

/-- R162: `BIT 0,A`, 0xCB 0x47. -/
def exec_bit_0_a (s : State) : Result := cbOnly s (bitOpnd 0 (.reg .a) s)

/-- R162: `BIT 1,B`, 0xCB 0x48. -/
def exec_bit_1_b (s : State) : Result := cbOnly s (bitOpnd 1 (.reg .b) s)

/-- R162: `BIT 1,C`, 0xCB 0x49. -/
def exec_bit_1_c (s : State) : Result := cbOnly s (bitOpnd 1 (.reg .c) s)

/-- R162: `BIT 1,D`, 0xCB 0x4A. -/
def exec_bit_1_d (s : State) : Result := cbOnly s (bitOpnd 1 (.reg .d) s)

/-- R162: `BIT 1,E`, 0xCB 0x4B. -/
def exec_bit_1_e (s : State) : Result := cbOnly s (bitOpnd 1 (.reg .e) s)

/-- R162: `BIT 1,H`, 0xCB 0x4C. -/
def exec_bit_1_h (s : State) : Result := cbOnly s (bitOpnd 1 (.reg .h) s)

/-- R162: `BIT 1,L`, 0xCB 0x4D. -/
def exec_bit_1_l (s : State) : Result := cbOnly s (bitOpnd 1 (.reg .l) s)

/-- R162: `BIT 1,(HL)`, 0xCB 0x4E. -/
def exec_bit_1_atHL (s : State) : Result := cbOnly s (bitOpnd 1 .atHL s)

/-- R162: `BIT 1,A`, 0xCB 0x4F. -/
def exec_bit_1_a (s : State) : Result := cbOnly s (bitOpnd 1 (.reg .a) s)

/-- R162: `BIT 2,B`, 0xCB 0x50. -/
def exec_bit_2_b (s : State) : Result := cbOnly s (bitOpnd 2 (.reg .b) s)

/-- R162: `BIT 2,C`, 0xCB 0x51. -/
def exec_bit_2_c (s : State) : Result := cbOnly s (bitOpnd 2 (.reg .c) s)

/-- R162: `BIT 2,D`, 0xCB 0x52. -/
def exec_bit_2_d (s : State) : Result := cbOnly s (bitOpnd 2 (.reg .d) s)

/-- R162: `BIT 2,E`, 0xCB 0x53. -/
def exec_bit_2_e (s : State) : Result := cbOnly s (bitOpnd 2 (.reg .e) s)

/-- R162: `BIT 2,H`, 0xCB 0x54. -/
def exec_bit_2_h (s : State) : Result := cbOnly s (bitOpnd 2 (.reg .h) s)

/-- R162: `BIT 2,L`, 0xCB 0x55. -/
def exec_bit_2_l (s : State) : Result := cbOnly s (bitOpnd 2 (.reg .l) s)

/-- R162: `BIT 2,(HL)`, 0xCB 0x56. -/
def exec_bit_2_atHL (s : State) : Result := cbOnly s (bitOpnd 2 .atHL s)

/-- R162: `BIT 2,A`, 0xCB 0x57. -/
def exec_bit_2_a (s : State) : Result := cbOnly s (bitOpnd 2 (.reg .a) s)

/-- R162: `BIT 3,B`, 0xCB 0x58. -/
def exec_bit_3_b (s : State) : Result := cbOnly s (bitOpnd 3 (.reg .b) s)

/-- R162: `BIT 3,C`, 0xCB 0x59. -/
def exec_bit_3_c (s : State) : Result := cbOnly s (bitOpnd 3 (.reg .c) s)

/-- R162: `BIT 3,D`, 0xCB 0x5A. -/
def exec_bit_3_d (s : State) : Result := cbOnly s (bitOpnd 3 (.reg .d) s)

/-- R162: `BIT 3,E`, 0xCB 0x5B. -/
def exec_bit_3_e (s : State) : Result := cbOnly s (bitOpnd 3 (.reg .e) s)

/-- R162: `BIT 3,H`, 0xCB 0x5C. -/
def exec_bit_3_h (s : State) : Result := cbOnly s (bitOpnd 3 (.reg .h) s)

/-- R162: `BIT 3,L`, 0xCB 0x5D. -/
def exec_bit_3_l (s : State) : Result := cbOnly s (bitOpnd 3 (.reg .l) s)

/-- R162: `BIT 3,(HL)`, 0xCB 0x5E. -/
def exec_bit_3_atHL (s : State) : Result := cbOnly s (bitOpnd 3 .atHL s)

/-- R162: `BIT 3,A`, 0xCB 0x5F. -/
def exec_bit_3_a (s : State) : Result := cbOnly s (bitOpnd 3 (.reg .a) s)

/-- R162: `BIT 4,B`, 0xCB 0x60. -/
def exec_bit_4_b (s : State) : Result := cbOnly s (bitOpnd 4 (.reg .b) s)

/-- R162: `BIT 4,C`, 0xCB 0x61. -/
def exec_bit_4_c (s : State) : Result := cbOnly s (bitOpnd 4 (.reg .c) s)

/-- R162: `BIT 4,D`, 0xCB 0x62. -/
def exec_bit_4_d (s : State) : Result := cbOnly s (bitOpnd 4 (.reg .d) s)

/-- R162: `BIT 4,E`, 0xCB 0x63. -/
def exec_bit_4_e (s : State) : Result := cbOnly s (bitOpnd 4 (.reg .e) s)

/-- R162: `BIT 4,H`, 0xCB 0x64. -/
def exec_bit_4_h (s : State) : Result := cbOnly s (bitOpnd 4 (.reg .h) s)

/-- R162: `BIT 4,L`, 0xCB 0x65. -/
def exec_bit_4_l (s : State) : Result := cbOnly s (bitOpnd 4 (.reg .l) s)

/-- R162: `BIT 4,(HL)`, 0xCB 0x66. -/
def exec_bit_4_atHL (s : State) : Result := cbOnly s (bitOpnd 4 .atHL s)

/-- R162: `BIT 4,A`, 0xCB 0x67. -/
def exec_bit_4_a (s : State) : Result := cbOnly s (bitOpnd 4 (.reg .a) s)

/-- R162: `BIT 5,B`, 0xCB 0x68. -/
def exec_bit_5_b (s : State) : Result := cbOnly s (bitOpnd 5 (.reg .b) s)

/-- R162: `BIT 5,C`, 0xCB 0x69. -/
def exec_bit_5_c (s : State) : Result := cbOnly s (bitOpnd 5 (.reg .c) s)

/-- R162: `BIT 5,D`, 0xCB 0x6A. -/
def exec_bit_5_d (s : State) : Result := cbOnly s (bitOpnd 5 (.reg .d) s)

/-- R162: `BIT 5,E`, 0xCB 0x6B. -/
def exec_bit_5_e (s : State) : Result := cbOnly s (bitOpnd 5 (.reg .e) s)

/-- R162: `BIT 5,H`, 0xCB 0x6C. -/
def exec_bit_5_h (s : State) : Result := cbOnly s (bitOpnd 5 (.reg .h) s)

/-- R162: `BIT 5,L`, 0xCB 0x6D. -/
def exec_bit_5_l (s : State) : Result := cbOnly s (bitOpnd 5 (.reg .l) s)

/-- R162: `BIT 5,(HL)`, 0xCB 0x6E. -/
def exec_bit_5_atHL (s : State) : Result := cbOnly s (bitOpnd 5 .atHL s)

/-- R162: `BIT 5,A`, 0xCB 0x6F. -/
def exec_bit_5_a (s : State) : Result := cbOnly s (bitOpnd 5 (.reg .a) s)

/-- R162: `BIT 6,B`, 0xCB 0x70. -/
def exec_bit_6_b (s : State) : Result := cbOnly s (bitOpnd 6 (.reg .b) s)

/-- R162: `BIT 6,C`, 0xCB 0x71. -/
def exec_bit_6_c (s : State) : Result := cbOnly s (bitOpnd 6 (.reg .c) s)

/-- R162: `BIT 6,D`, 0xCB 0x72. -/
def exec_bit_6_d (s : State) : Result := cbOnly s (bitOpnd 6 (.reg .d) s)

/-- R162: `BIT 6,E`, 0xCB 0x73. -/
def exec_bit_6_e (s : State) : Result := cbOnly s (bitOpnd 6 (.reg .e) s)

/-- R162: `BIT 6,H`, 0xCB 0x74. -/
def exec_bit_6_h (s : State) : Result := cbOnly s (bitOpnd 6 (.reg .h) s)

/-- R162: `BIT 6,L`, 0xCB 0x75. -/
def exec_bit_6_l (s : State) : Result := cbOnly s (bitOpnd 6 (.reg .l) s)

/-- R162: `BIT 6,(HL)`, 0xCB 0x76. -/
def exec_bit_6_atHL (s : State) : Result := cbOnly s (bitOpnd 6 .atHL s)

/-- R162: `BIT 6,A`, 0xCB 0x77. -/
def exec_bit_6_a (s : State) : Result := cbOnly s (bitOpnd 6 (.reg .a) s)

/-- R162: `BIT 7,B`, 0xCB 0x78. -/
def exec_bit_7_b (s : State) : Result := cbOnly s (bitOpnd 7 (.reg .b) s)

/-- R162: `BIT 7,C`, 0xCB 0x79. -/
def exec_bit_7_c (s : State) : Result := cbOnly s (bitOpnd 7 (.reg .c) s)

/-- R162: `BIT 7,D`, 0xCB 0x7A. -/
def exec_bit_7_d (s : State) : Result := cbOnly s (bitOpnd 7 (.reg .d) s)

/-- R162: `BIT 7,E`, 0xCB 0x7B. -/
def exec_bit_7_e (s : State) : Result := cbOnly s (bitOpnd 7 (.reg .e) s)

/-- R162: `BIT 7,H`, 0xCB 0x7C. -/
def exec_bit_7_h (s : State) : Result := cbOnly s (bitOpnd 7 (.reg .h) s)

/-- R162: `BIT 7,L`, 0xCB 0x7D. -/
def exec_bit_7_l (s : State) : Result := cbOnly s (bitOpnd 7 (.reg .l) s)

/-- R162: `BIT 7,(HL)`, 0xCB 0x7E. -/
def exec_bit_7_atHL (s : State) : Result := cbOnly s (bitOpnd 7 .atHL s)

/-- R162: `BIT 7,A`, 0xCB 0x7F. -/
def exec_bit_7_a (s : State) : Result := cbOnly s (bitOpnd 7 (.reg .a) s)

/-- R163: `RES 0,B`, 0xCB 0x80. -/
def exec_res_0_b (s : State) : Result := cbOnly s (resOpnd 0 (.reg .b) s)

/-- R163: `RES 0,C`, 0xCB 0x81. -/
def exec_res_0_c (s : State) : Result := cbOnly s (resOpnd 0 (.reg .c) s)

/-- R163: `RES 0,D`, 0xCB 0x82. -/
def exec_res_0_d (s : State) : Result := cbOnly s (resOpnd 0 (.reg .d) s)

/-- R163: `RES 0,E`, 0xCB 0x83. -/
def exec_res_0_e (s : State) : Result := cbOnly s (resOpnd 0 (.reg .e) s)

/-- R163: `RES 0,H`, 0xCB 0x84. -/
def exec_res_0_h (s : State) : Result := cbOnly s (resOpnd 0 (.reg .h) s)

/-- R163: `RES 0,L`, 0xCB 0x85. -/
def exec_res_0_l (s : State) : Result := cbOnly s (resOpnd 0 (.reg .l) s)

/-- R163: `RES 0,(HL)`, 0xCB 0x86. -/
def exec_res_0_atHL (s : State) : Result := cbOnly s (resOpnd 0 .atHL s)

/-- R163: `RES 0,A`, 0xCB 0x87. -/
def exec_res_0_a (s : State) : Result := cbOnly s (resOpnd 0 (.reg .a) s)

/-- R163: `RES 1,B`, 0xCB 0x88. -/
def exec_res_1_b (s : State) : Result := cbOnly s (resOpnd 1 (.reg .b) s)

/-- R163: `RES 1,C`, 0xCB 0x89. -/
def exec_res_1_c (s : State) : Result := cbOnly s (resOpnd 1 (.reg .c) s)

/-- R163: `RES 1,D`, 0xCB 0x8A. -/
def exec_res_1_d (s : State) : Result := cbOnly s (resOpnd 1 (.reg .d) s)

/-- R163: `RES 1,E`, 0xCB 0x8B. -/
def exec_res_1_e (s : State) : Result := cbOnly s (resOpnd 1 (.reg .e) s)

/-- R163: `RES 1,H`, 0xCB 0x8C. -/
def exec_res_1_h (s : State) : Result := cbOnly s (resOpnd 1 (.reg .h) s)

/-- R163: `RES 1,L`, 0xCB 0x8D. -/
def exec_res_1_l (s : State) : Result := cbOnly s (resOpnd 1 (.reg .l) s)

/-- R163: `RES 1,(HL)`, 0xCB 0x8E. -/
def exec_res_1_atHL (s : State) : Result := cbOnly s (resOpnd 1 .atHL s)

/-- R163: `RES 1,A`, 0xCB 0x8F. -/
def exec_res_1_a (s : State) : Result := cbOnly s (resOpnd 1 (.reg .a) s)

/-- R163: `RES 2,B`, 0xCB 0x90. -/
def exec_res_2_b (s : State) : Result := cbOnly s (resOpnd 2 (.reg .b) s)

/-- R163: `RES 2,C`, 0xCB 0x91. -/
def exec_res_2_c (s : State) : Result := cbOnly s (resOpnd 2 (.reg .c) s)

/-- R163: `RES 2,D`, 0xCB 0x92. -/
def exec_res_2_d (s : State) : Result := cbOnly s (resOpnd 2 (.reg .d) s)

/-- R163: `RES 2,E`, 0xCB 0x93. -/
def exec_res_2_e (s : State) : Result := cbOnly s (resOpnd 2 (.reg .e) s)

/-- R163: `RES 2,H`, 0xCB 0x94. -/
def exec_res_2_h (s : State) : Result := cbOnly s (resOpnd 2 (.reg .h) s)

/-- R163: `RES 2,L`, 0xCB 0x95. -/
def exec_res_2_l (s : State) : Result := cbOnly s (resOpnd 2 (.reg .l) s)

/-- R163: `RES 2,(HL)`, 0xCB 0x96. -/
def exec_res_2_atHL (s : State) : Result := cbOnly s (resOpnd 2 .atHL s)

/-- R163: `RES 2,A`, 0xCB 0x97. -/
def exec_res_2_a (s : State) : Result := cbOnly s (resOpnd 2 (.reg .a) s)

/-- R163: `RES 3,B`, 0xCB 0x98. -/
def exec_res_3_b (s : State) : Result := cbOnly s (resOpnd 3 (.reg .b) s)

/-- R163: `RES 3,C`, 0xCB 0x99. -/
def exec_res_3_c (s : State) : Result := cbOnly s (resOpnd 3 (.reg .c) s)

/-- R163: `RES 3,D`, 0xCB 0x9A. -/
def exec_res_3_d (s : State) : Result := cbOnly s (resOpnd 3 (.reg .d) s)

/-- R163: `RES 3,E`, 0xCB 0x9B. -/
def exec_res_3_e (s : State) : Result := cbOnly s (resOpnd 3 (.reg .e) s)

/-- R163: `RES 3,H`, 0xCB 0x9C. -/
def exec_res_3_h (s : State) : Result := cbOnly s (resOpnd 3 (.reg .h) s)

/-- R163: `RES 3,L`, 0xCB 0x9D. -/
def exec_res_3_l (s : State) : Result := cbOnly s (resOpnd 3 (.reg .l) s)

/-- R163: `RES 3,(HL)`, 0xCB 0x9E. -/
def exec_res_3_atHL (s : State) : Result := cbOnly s (resOpnd 3 .atHL s)

/-- R163: `RES 3,A`, 0xCB 0x9F. -/
def exec_res_3_a (s : State) : Result := cbOnly s (resOpnd 3 (.reg .a) s)

/-- R163: `RES 4,B`, 0xCB 0xA0. -/
def exec_res_4_b (s : State) : Result := cbOnly s (resOpnd 4 (.reg .b) s)

/-- R163: `RES 4,C`, 0xCB 0xA1. -/
def exec_res_4_c (s : State) : Result := cbOnly s (resOpnd 4 (.reg .c) s)

/-- R163: `RES 4,D`, 0xCB 0xA2. -/
def exec_res_4_d (s : State) : Result := cbOnly s (resOpnd 4 (.reg .d) s)

/-- R163: `RES 4,E`, 0xCB 0xA3. -/
def exec_res_4_e (s : State) : Result := cbOnly s (resOpnd 4 (.reg .e) s)

/-- R163: `RES 4,H`, 0xCB 0xA4. -/
def exec_res_4_h (s : State) : Result := cbOnly s (resOpnd 4 (.reg .h) s)

/-- R163: `RES 4,L`, 0xCB 0xA5. -/
def exec_res_4_l (s : State) : Result := cbOnly s (resOpnd 4 (.reg .l) s)

/-- R163: `RES 4,(HL)`, 0xCB 0xA6. -/
def exec_res_4_atHL (s : State) : Result := cbOnly s (resOpnd 4 .atHL s)

/-- R163: `RES 4,A`, 0xCB 0xA7. -/
def exec_res_4_a (s : State) : Result := cbOnly s (resOpnd 4 (.reg .a) s)

/-- R163: `RES 5,B`, 0xCB 0xA8. -/
def exec_res_5_b (s : State) : Result := cbOnly s (resOpnd 5 (.reg .b) s)

/-- R163: `RES 5,C`, 0xCB 0xA9. -/
def exec_res_5_c (s : State) : Result := cbOnly s (resOpnd 5 (.reg .c) s)

/-- R163: `RES 5,D`, 0xCB 0xAA. -/
def exec_res_5_d (s : State) : Result := cbOnly s (resOpnd 5 (.reg .d) s)

/-- R163: `RES 5,E`, 0xCB 0xAB. -/
def exec_res_5_e (s : State) : Result := cbOnly s (resOpnd 5 (.reg .e) s)

/-- R163: `RES 5,H`, 0xCB 0xAC. -/
def exec_res_5_h (s : State) : Result := cbOnly s (resOpnd 5 (.reg .h) s)

/-- R163: `RES 5,L`, 0xCB 0xAD. -/
def exec_res_5_l (s : State) : Result := cbOnly s (resOpnd 5 (.reg .l) s)

/-- R163: `RES 5,(HL)`, 0xCB 0xAE. -/
def exec_res_5_atHL (s : State) : Result := cbOnly s (resOpnd 5 .atHL s)

/-- R163: `RES 5,A`, 0xCB 0xAF. -/
def exec_res_5_a (s : State) : Result := cbOnly s (resOpnd 5 (.reg .a) s)

/-- R163: `RES 6,B`, 0xCB 0xB0. -/
def exec_res_6_b (s : State) : Result := cbOnly s (resOpnd 6 (.reg .b) s)

/-- R163: `RES 6,C`, 0xCB 0xB1. -/
def exec_res_6_c (s : State) : Result := cbOnly s (resOpnd 6 (.reg .c) s)

/-- R163: `RES 6,D`, 0xCB 0xB2. -/
def exec_res_6_d (s : State) : Result := cbOnly s (resOpnd 6 (.reg .d) s)

/-- R163: `RES 6,E`, 0xCB 0xB3. -/
def exec_res_6_e (s : State) : Result := cbOnly s (resOpnd 6 (.reg .e) s)

/-- R163: `RES 6,H`, 0xCB 0xB4. -/
def exec_res_6_h (s : State) : Result := cbOnly s (resOpnd 6 (.reg .h) s)

/-- R163: `RES 6,L`, 0xCB 0xB5. -/
def exec_res_6_l (s : State) : Result := cbOnly s (resOpnd 6 (.reg .l) s)

/-- R163: `RES 6,(HL)`, 0xCB 0xB6. -/
def exec_res_6_atHL (s : State) : Result := cbOnly s (resOpnd 6 .atHL s)

/-- R163: `RES 6,A`, 0xCB 0xB7. -/
def exec_res_6_a (s : State) : Result := cbOnly s (resOpnd 6 (.reg .a) s)

/-- R163: `RES 7,B`, 0xCB 0xB8. -/
def exec_res_7_b (s : State) : Result := cbOnly s (resOpnd 7 (.reg .b) s)

/-- R163: `RES 7,C`, 0xCB 0xB9. -/
def exec_res_7_c (s : State) : Result := cbOnly s (resOpnd 7 (.reg .c) s)

/-- R163: `RES 7,D`, 0xCB 0xBA. -/
def exec_res_7_d (s : State) : Result := cbOnly s (resOpnd 7 (.reg .d) s)

/-- R163: `RES 7,E`, 0xCB 0xBB. -/
def exec_res_7_e (s : State) : Result := cbOnly s (resOpnd 7 (.reg .e) s)

/-- R163: `RES 7,H`, 0xCB 0xBC. -/
def exec_res_7_h (s : State) : Result := cbOnly s (resOpnd 7 (.reg .h) s)

/-- R163: `RES 7,L`, 0xCB 0xBD. -/
def exec_res_7_l (s : State) : Result := cbOnly s (resOpnd 7 (.reg .l) s)

/-- R163: `RES 7,(HL)`, 0xCB 0xBE. -/
def exec_res_7_atHL (s : State) : Result := cbOnly s (resOpnd 7 .atHL s)

/-- R163: `RES 7,A`, 0xCB 0xBF. -/
def exec_res_7_a (s : State) : Result := cbOnly s (resOpnd 7 (.reg .a) s)

/-- R164: `SET 0,B`, 0xCB 0xC0. -/
def exec_set_0_b (s : State) : Result := cbOnly s (setOpnd 0 (.reg .b) s)

/-- R164: `SET 0,C`, 0xCB 0xC1. -/
def exec_set_0_c (s : State) : Result := cbOnly s (setOpnd 0 (.reg .c) s)

/-- R164: `SET 0,D`, 0xCB 0xC2. -/
def exec_set_0_d (s : State) : Result := cbOnly s (setOpnd 0 (.reg .d) s)

/-- R164: `SET 0,E`, 0xCB 0xC3. -/
def exec_set_0_e (s : State) : Result := cbOnly s (setOpnd 0 (.reg .e) s)

/-- R164: `SET 0,H`, 0xCB 0xC4. -/
def exec_set_0_h (s : State) : Result := cbOnly s (setOpnd 0 (.reg .h) s)

/-- R164: `SET 0,L`, 0xCB 0xC5. -/
def exec_set_0_l (s : State) : Result := cbOnly s (setOpnd 0 (.reg .l) s)

/-- R164: `SET 0,(HL)`, 0xCB 0xC6. -/
def exec_set_0_atHL (s : State) : Result := cbOnly s (setOpnd 0 .atHL s)

/-- R164: `SET 0,A`, 0xCB 0xC7. -/
def exec_set_0_a (s : State) : Result := cbOnly s (setOpnd 0 (.reg .a) s)

/-- R164: `SET 1,B`, 0xCB 0xC8. -/
def exec_set_1_b (s : State) : Result := cbOnly s (setOpnd 1 (.reg .b) s)

/-- R164: `SET 1,C`, 0xCB 0xC9. -/
def exec_set_1_c (s : State) : Result := cbOnly s (setOpnd 1 (.reg .c) s)

/-- R164: `SET 1,D`, 0xCB 0xCA. -/
def exec_set_1_d (s : State) : Result := cbOnly s (setOpnd 1 (.reg .d) s)

/-- R164: `SET 1,E`, 0xCB 0xCB. -/
def exec_set_1_e (s : State) : Result := cbOnly s (setOpnd 1 (.reg .e) s)

/-- R164: `SET 1,H`, 0xCB 0xCC. -/
def exec_set_1_h (s : State) : Result := cbOnly s (setOpnd 1 (.reg .h) s)

/-- R164: `SET 1,L`, 0xCB 0xCD. -/
def exec_set_1_l (s : State) : Result := cbOnly s (setOpnd 1 (.reg .l) s)

/-- R164: `SET 1,(HL)`, 0xCB 0xCE. -/
def exec_set_1_atHL (s : State) : Result := cbOnly s (setOpnd 1 .atHL s)

/-- R164: `SET 1,A`, 0xCB 0xCF. -/
def exec_set_1_a (s : State) : Result := cbOnly s (setOpnd 1 (.reg .a) s)

/-- R164: `SET 2,B`, 0xCB 0xD0. -/
def exec_set_2_b (s : State) : Result := cbOnly s (setOpnd 2 (.reg .b) s)

/-- R164: `SET 2,C`, 0xCB 0xD1. -/
def exec_set_2_c (s : State) : Result := cbOnly s (setOpnd 2 (.reg .c) s)

/-- R164: `SET 2,D`, 0xCB 0xD2. -/
def exec_set_2_d (s : State) : Result := cbOnly s (setOpnd 2 (.reg .d) s)

/-- R164: `SET 2,E`, 0xCB 0xD3. -/
def exec_set_2_e (s : State) : Result := cbOnly s (setOpnd 2 (.reg .e) s)

/-- R164: `SET 2,H`, 0xCB 0xD4. -/
def exec_set_2_h (s : State) : Result := cbOnly s (setOpnd 2 (.reg .h) s)

/-- R164: `SET 2,L`, 0xCB 0xD5. -/
def exec_set_2_l (s : State) : Result := cbOnly s (setOpnd 2 (.reg .l) s)

/-- R164: `SET 2,(HL)`, 0xCB 0xD6. -/
def exec_set_2_atHL (s : State) : Result := cbOnly s (setOpnd 2 .atHL s)

/-- R164: `SET 2,A`, 0xCB 0xD7. -/
def exec_set_2_a (s : State) : Result := cbOnly s (setOpnd 2 (.reg .a) s)

/-- R164: `SET 3,B`, 0xCB 0xD8. -/
def exec_set_3_b (s : State) : Result := cbOnly s (setOpnd 3 (.reg .b) s)

/-- R164: `SET 3,C`, 0xCB 0xD9. -/
def exec_set_3_c (s : State) : Result := cbOnly s (setOpnd 3 (.reg .c) s)

/-- R164: `SET 3,D`, 0xCB 0xDA. -/
def exec_set_3_d (s : State) : Result := cbOnly s (setOpnd 3 (.reg .d) s)

/-- R164: `SET 3,E`, 0xCB 0xDB. -/
def exec_set_3_e (s : State) : Result := cbOnly s (setOpnd 3 (.reg .e) s)

/-- R164: `SET 3,H`, 0xCB 0xDC. -/
def exec_set_3_h (s : State) : Result := cbOnly s (setOpnd 3 (.reg .h) s)

/-- R164: `SET 3,L`, 0xCB 0xDD. -/
def exec_set_3_l (s : State) : Result := cbOnly s (setOpnd 3 (.reg .l) s)

/-- R164: `SET 3,(HL)`, 0xCB 0xDE. -/
def exec_set_3_atHL (s : State) : Result := cbOnly s (setOpnd 3 .atHL s)

/-- R164: `SET 3,A`, 0xCB 0xDF. -/
def exec_set_3_a (s : State) : Result := cbOnly s (setOpnd 3 (.reg .a) s)

/-- R164: `SET 4,B`, 0xCB 0xE0. -/
def exec_set_4_b (s : State) : Result := cbOnly s (setOpnd 4 (.reg .b) s)

/-- R164: `SET 4,C`, 0xCB 0xE1. -/
def exec_set_4_c (s : State) : Result := cbOnly s (setOpnd 4 (.reg .c) s)

/-- R164: `SET 4,D`, 0xCB 0xE2. -/
def exec_set_4_d (s : State) : Result := cbOnly s (setOpnd 4 (.reg .d) s)

/-- R164: `SET 4,E`, 0xCB 0xE3. -/
def exec_set_4_e (s : State) : Result := cbOnly s (setOpnd 4 (.reg .e) s)

/-- R164: `SET 4,H`, 0xCB 0xE4. -/
def exec_set_4_h (s : State) : Result := cbOnly s (setOpnd 4 (.reg .h) s)

/-- R164: `SET 4,L`, 0xCB 0xE5. -/
def exec_set_4_l (s : State) : Result := cbOnly s (setOpnd 4 (.reg .l) s)

/-- R164: `SET 4,(HL)`, 0xCB 0xE6. -/
def exec_set_4_atHL (s : State) : Result := cbOnly s (setOpnd 4 .atHL s)

/-- R164: `SET 4,A`, 0xCB 0xE7. -/
def exec_set_4_a (s : State) : Result := cbOnly s (setOpnd 4 (.reg .a) s)

/-- R164: `SET 5,B`, 0xCB 0xE8. -/
def exec_set_5_b (s : State) : Result := cbOnly s (setOpnd 5 (.reg .b) s)

/-- R164: `SET 5,C`, 0xCB 0xE9. -/
def exec_set_5_c (s : State) : Result := cbOnly s (setOpnd 5 (.reg .c) s)

/-- R164: `SET 5,D`, 0xCB 0xEA. -/
def exec_set_5_d (s : State) : Result := cbOnly s (setOpnd 5 (.reg .d) s)

/-- R164: `SET 5,E`, 0xCB 0xEB. -/
def exec_set_5_e (s : State) : Result := cbOnly s (setOpnd 5 (.reg .e) s)

/-- R164: `SET 5,H`, 0xCB 0xEC. -/
def exec_set_5_h (s : State) : Result := cbOnly s (setOpnd 5 (.reg .h) s)

/-- R164: `SET 5,L`, 0xCB 0xED. -/
def exec_set_5_l (s : State) : Result := cbOnly s (setOpnd 5 (.reg .l) s)

/-- R164: `SET 5,(HL)`, 0xCB 0xEE. -/
def exec_set_5_atHL (s : State) : Result := cbOnly s (setOpnd 5 .atHL s)

/-- R164: `SET 5,A`, 0xCB 0xEF. -/
def exec_set_5_a (s : State) : Result := cbOnly s (setOpnd 5 (.reg .a) s)

/-- R164: `SET 6,B`, 0xCB 0xF0. -/
def exec_set_6_b (s : State) : Result := cbOnly s (setOpnd 6 (.reg .b) s)

/-- R164: `SET 6,C`, 0xCB 0xF1. -/
def exec_set_6_c (s : State) : Result := cbOnly s (setOpnd 6 (.reg .c) s)

/-- R164: `SET 6,D`, 0xCB 0xF2. -/
def exec_set_6_d (s : State) : Result := cbOnly s (setOpnd 6 (.reg .d) s)

/-- R164: `SET 6,E`, 0xCB 0xF3. -/
def exec_set_6_e (s : State) : Result := cbOnly s (setOpnd 6 (.reg .e) s)

/-- R164: `SET 6,H`, 0xCB 0xF4. -/
def exec_set_6_h (s : State) : Result := cbOnly s (setOpnd 6 (.reg .h) s)

/-- R164: `SET 6,L`, 0xCB 0xF5. -/
def exec_set_6_l (s : State) : Result := cbOnly s (setOpnd 6 (.reg .l) s)

/-- R164: `SET 6,(HL)`, 0xCB 0xF6. -/
def exec_set_6_atHL (s : State) : Result := cbOnly s (setOpnd 6 .atHL s)

/-- R164: `SET 6,A`, 0xCB 0xF7. -/
def exec_set_6_a (s : State) : Result := cbOnly s (setOpnd 6 (.reg .a) s)

/-- R164: `SET 7,B`, 0xCB 0xF8. -/
def exec_set_7_b (s : State) : Result := cbOnly s (setOpnd 7 (.reg .b) s)

/-- R164: `SET 7,C`, 0xCB 0xF9. -/
def exec_set_7_c (s : State) : Result := cbOnly s (setOpnd 7 (.reg .c) s)

/-- R164: `SET 7,D`, 0xCB 0xFA. -/
def exec_set_7_d (s : State) : Result := cbOnly s (setOpnd 7 (.reg .d) s)

/-- R164: `SET 7,E`, 0xCB 0xFB. -/
def exec_set_7_e (s : State) : Result := cbOnly s (setOpnd 7 (.reg .e) s)

/-- R164: `SET 7,H`, 0xCB 0xFC. -/
def exec_set_7_h (s : State) : Result := cbOnly s (setOpnd 7 (.reg .h) s)

/-- R164: `SET 7,L`, 0xCB 0xFD. -/
def exec_set_7_l (s : State) : Result := cbOnly s (setOpnd 7 (.reg .l) s)

/-- R164: `SET 7,(HL)`, 0xCB 0xFE. -/
def exec_set_7_atHL (s : State) : Result := cbOnly s (setOpnd 7 .atHL s)

/-- R164: `SET 7,A`, 0xCB 0xFF. -/
def exec_set_7_a (s : State) : Result := cbOnly s (setOpnd 7 (.reg .a) s)

end Sys2Proof.Machine
end

