-- ==== Sys2Proof/Machine/System.lean ====
section
/-! DEFINITION. The meanings of the system instructions, of the 0xCB byte and of the undefined opcodes
(47_system.md). The 0xCB byte has been fetched when `exec_prefix_cb` starts, and the CB opcode has not: the
meaning fetches it when `CB_ENABLED` is true (R181, log entry 9). -/

namespace Sys2Proof.Machine

/-! ## The instructions -/

/-- R176: `NOP`, 0x00. -/
def exec_nop (s : State) : Result := .next s

/-- R178: `STOP`, 0x10. -/
def exec_stop (_n8 : Byte) (s : State) : Result := .next { s with mode := .stopped }

/-- R177: `HALT`, 0x76. -/
def exec_halt (s : State) : Result := .next { s with mode := .halted }

/-- R179: `DI`, 0xF3. -/
def exec_di (s : State) : Result := .next { s with ime := false }

/-- R180: `EI`, 0xFB. -/
def exec_ei (s : State) : Result := .next { s with ime := true }

/-- R181: `PREFIX CB`, 0xCB. -/
def exec_prefix_cb (s : State) : Result :=
  if s.cfg.cbEnabled then
    match fetchByte s with
    | .ok (o, s₁) => runCbOpcode o s₁
    | .error e => raise e
  else raise (.unimplementedOpcode 0xCB#8 (s.pc - 1#16))

/-- R182: the undefined opcode 0xD3. -/
def exec_undefined_d3 (s : State) : Result := raise (.unimplementedOpcode 0xD3#8 (s.pc - 1#16))

/-- R182: the undefined opcode 0xDB. -/
def exec_undefined_db (s : State) : Result := raise (.unimplementedOpcode 0xDB#8 (s.pc - 1#16))

/-- R182: the undefined opcode 0xDD. -/
def exec_undefined_dd (s : State) : Result := raise (.unimplementedOpcode 0xDD#8 (s.pc - 1#16))

/-- R182: the undefined opcode 0xE3. -/
def exec_undefined_e3 (s : State) : Result := raise (.unimplementedOpcode 0xE3#8 (s.pc - 1#16))

/-- R182: the undefined opcode 0xE4. -/
def exec_undefined_e4 (s : State) : Result := raise (.unimplementedOpcode 0xE4#8 (s.pc - 1#16))

/-- R182: the undefined opcode 0xEB. -/
def exec_undefined_eb (s : State) : Result := raise (.unimplementedOpcode 0xEB#8 (s.pc - 1#16))

/-- R182: the undefined opcode 0xEC. -/
def exec_undefined_ec (s : State) : Result := raise (.unimplementedOpcode 0xEC#8 (s.pc - 1#16))

/-- R182: the undefined opcode 0xED. -/
def exec_undefined_ed (s : State) : Result := raise (.unimplementedOpcode 0xED#8 (s.pc - 1#16))

/-- R182: the undefined opcode 0xF4. -/
def exec_undefined_f4 (s : State) : Result := raise (.unimplementedOpcode 0xF4#8 (s.pc - 1#16))

/-- R182: the undefined opcode 0xFC. -/
def exec_undefined_fc (s : State) : Result := raise (.unimplementedOpcode 0xFC#8 (s.pc - 1#16))

/-- R182: the undefined opcode 0xFD. -/
def exec_undefined_fd (s : State) : Result := raise (.unimplementedOpcode 0xFD#8 (s.pc - 1#16))

end Sys2Proof.Machine
end

