-- ==== Sys2Proof/Machine/Fetch.lean ====
section
/-! DEFINITION. Fetching an instruction (R83, R84, R85), and placing the bytes of one where the next fetch
reads them (the loader's part of R57, for the host's questions). -/

namespace Sys2Proof.Machine

/-- `FetchOperands` (R85): `n` operand bytes in order; a byte the instruction does not have is 0x00 and is not
looked at by the decoder. -/
def fetchOperands (n : Nat) (s : State) : Except Fault (Byte × Byte × State) :=
  match n with
  | 0 => .ok (0#8, 0#8, s)
  | 1 => do
    let (b1, s₁) ← fetchByte s
    pure (b1, 0#8, s₁)
  | _ => do
    let (b1, s₁) ← fetchByte s
    let (b2, s₂) ← fetchByte s₁
    pure (b1, b2, s₂)

/-- Fetch, decode and fetch of the operands (R83): the instruction at PC, and the state with PC at `pc_next`.
Every byte is fetched before anything else is read or written; the opcode alone says how many there are
(R74), so an undefined opcode is known before any operand byte is fetched (R182). -/
def fetchInstr (s : State) : Except Fault (Instr × State) := do
  let (op, s₁) ← fetchByte s
  let (b1, b2, s₂) ← fetchOperands (operandBytes s.cfg.cbEnabled op) s₁
  pure (instrOf s.cfg.cbEnabled op b1 b2, s₂)

/-! ## Placing bytes -/

/-- Whether a byte can be placed at an address: the ROM image, which the loader supplies, a RAM array, or
IE. -/
def holdsBytes (addr : Word) : Bool :=
  match regionOf addr with
  | .rom | .eram | .wram | .hram | .ie => true
  | .vram | .echo | .oam | .unusable | .io => false

/-- A byte placed at an address from outside the machine; a ROM image that is too short grows to reach it. -/
def plantByte (s : State) (addr : Word) (v : Byte) : State :=
  match regionOf addr with
  | .rom =>
    { s with
      cfg :=
        { s.cfg with
          rom := Memory.write s.cfg.rom addr.toNat v
          romLen := max s.cfg.romLen (addr.toNat + 1) } }
  | .eram | .wram | .hram => { s with mem := Memory.write s.mem addr.toNat v }
  | .ie => { s with ie := v }
  | .vram | .echo | .oam | .unusable | .io => s

/-- Bytes placed from an address on, the address wrapping. -/
def plantBytes (s : State) (addr : Word) (bytes : List Byte) : State :=
  match bytes with
  | [] => s
  | v :: rest => plantBytes (plantByte s addr v) (addr + 1#16) rest

/-- Where the next instruction can be placed: at PC if three bytes there can hold it, else at the entry point
0x0100 (R51, log entry 12). -/
def plantAddress (pc : Word) : Word :=
  if holdsBytes pc && holdsBytes (pc + 1#16) && holdsBytes (pc + 2#16) then pc else 0x0100#16

/-- A state made ready to fetch three bytes: Running, PC where they can be placed, and `CB_ENABLED` as the
table's row needs it when the first byte is 0xCB (log entry 12). -/
def plantInstr (s : State) (cb : Bool) (bytes : List Byte) : State :=
  let cbEnabled := if bytes.head? = some 0xCB#8 then cb else s.cfg.cbEnabled
  let addr := plantAddress s.pc
  plantBytes { s with mode := .running, pc := addr, cfg := { s.cfg with cbEnabled := cbEnabled } } addr bytes

end Sys2Proof.Machine
end

