-- ==== Sys2Proof/Machine/Step.lean ====
section
/-! DEFINITION. One step (R83, R89, R92). -/

namespace Sys2Proof.Machine

/-- One step runs exactly one instruction to completion (R83). When the mode is Halted or Stopped it changes
nothing, fetches nothing and cannot fault (R92). -/
def step (s : State) : Host.Outcome State Fault Refusal :=
  match s.mode with
  | .running =>
    match fetchInstr s with
    | .ok (i, s₁) => exec i s₁
    | .error e => raise e
  | .halted => .next s
  | .stopped => .next s

/-- The state with the instruction of a word of opcode_table.json stored where the next step fetches it (log
entries 10 and 12). -/
def State.withFetchWord (s : State) (nbits w : Nat) : State :=
  plantInstr s (tableCb nbits) (tableBytes nbits w)

end Sys2Proof.Machine
end

