-- ==== Sys2Proof/Machine/Cartridge.lean ====
section
/-! DEFINITION. The projections of the cartridge header that surrounding software reads from the ROM image
(R57, R58, R59). No step uses them: they are the interface facts of 20_memory.md, and their two reports are
never the result of a step (R184). -/

namespace Sys2Proof.Machine

/-- The report of a projection on a buffer too short for it (R58, R184). -/
inductive CartridgeError where
  | malformedCartridge
deriving DecidableEq, Repr

/-- A header field with its meaning, or the typed "Unknown(code)" for a code that is not listed (R58). -/
inductive HeaderField (α : Type) where
  | known (v : α)
  | unknown (code : Nat)
deriving DecidableEq, Repr

/-- The destination codes (R58). -/
inductive Destination where
  | international
  | japan
deriving DecidableEq, Repr

/-- A byte of the header. -/
def headerByte (cfg : Config) (i : Nat) : Except CartridgeError Byte :=
  match romByte? cfg i with
  | some v => .ok v
  | none => .error .malformedCartridge

/-- The bytes of a header field, from an offset on. -/
def headerBytes (cfg : Config) (first count : Nat) : Except CartridgeError (List Byte) :=
  match count with
  | 0 => .ok []
  | k + 1 => do
    let v ← headerByte cfg first
    let rest ← headerBytes cfg (first + 1) k
    pure (v :: rest)

/-- The logo, 0x104 to 0x133. -/
def headerLogo (cfg : Config) : Except CartridgeError (List Byte) := headerBytes cfg 0x104 0x30

/-! ## The title -/

/-- What the first byte of a UTF-8 sequence says, for an ASCII byte the sequence of that byte alone: how many
bytes follow it, the bits of the code point that it holds, and the least code point that may be written in that
length. The layout of the sequences is that of the UTF-8 standard, not of the source (log entry 17). -/
def utf8Lead (v : Byte) : Option (Nat × Nat × Nat) :=
  if v.toNat < 0x80 then some (0, v.toNat, 0)
  else if v.toNat < 0xC0 then none
  else if v.toNat < 0xE0 then some (1, v.toNat - 0xC0, 0x80)
  else if v.toNat < 0xF0 then some (2, v.toNat - 0xE0, 0x800)
  else if v.toNat < 0xF8 then some (3, v.toNat - 0xF0, 0x10000)
  else none

/-- The code point of a sequence: the bits `x` read so far, and six more from each of `n` bytes that follow
(log entry 17). -/
def utf8Tail (n x : Nat) (bytes : List Byte) : Option Nat :=
  match n, bytes with
  | 0, _ => some x
  | _ + 1, [] => none
  | k + 1, v :: rest => if v.toNat / 64 = 2 then utf8Tail k (x * 64 + v.toNat % 64) rest else none

/-- The character of the well-formed UTF-8 sequence at the head of a list of bytes, and how many bytes of it
follow the first: the shortest sequence of a code point that is a character (log entry 17). -/
def utf8Char? (v : Byte) (rest : List Byte) : Option (Char × Nat) := do
  let (n, x, least) ← utf8Lead v
  let code ← utf8Tail n x rest
  if least ≤ code ∧ code.isValidChar then some (Char.ofNat code, n) else none

/-- A best-effort UTF-8 decode of bytes after the `skip` bytes of a sequence already read: each well-formed
sequence is its character, and a byte at which none begins is unknown(code), so that no byte ends the decode and
none is lost (R58, log entry 17). -/
def decodeText (skip : Nat) (bytes : List Byte) : List (HeaderField Char) :=
  match bytes with
  | [] => []
  | v :: rest =>
    match skip with
    | k + 1 => decodeText k rest
    | 0 =>
      match utf8Char? v rest with
      | some (c, n) => .known c :: decodeText n rest
      | none => .unknown v.toNat :: decodeText 0 rest

/-- The title, the text at 0x134 to 0x142 (R58). -/
def headerTitle (cfg : Config) : Except CartridgeError (List (HeaderField Char)) := do
  let bytes ← headerBytes cfg 0x134 0x0F
  pure (decodeText 0 bytes)

/-! ## The codes and the flags -/

/-- Whether the CGB flag at 0x143 says color-enabled; a value that the table does not list is unknown. -/
def headerColor (cfg : Config) : Except CartridgeError (HeaderField Bool) := do
  let v ← headerByte cfg 0x143
  pure (if v = 0x80#8 ∨ v = 0xC0#8 then .known true else .unknown v.toNat)

/-- The licensee code at 0x144 and 0x145; the source gives no table, so every code is unknown (log entry
14). -/
def headerLicensee (cfg : Config) : Except CartridgeError (HeaderField String) := do
  let v ← headerByte cfg 0x144
  let w ← headerByte cfg 0x145
  pure (.unknown (v.toNat * 256 + w.toNat))

/-- The SGB flag at 0x146. -/
def headerSgb (cfg : Config) : Except CartridgeError (HeaderField Bool) := do
  let v ← headerByte cfg 0x146
  pure (if v = 0x00#8 then .known false else if v = 0x03#8 then .known true else .unknown v.toNat)

/-- The cartridge and bank-controller type at 0x147; the source gives no table (log entry 14). -/
def headerCartridgeType (cfg : Config) : Except CartridgeError (HeaderField String) := do
  let v ← headerByte cfg 0x147
  pure (.unknown v.toNat)

/-- The ROM size code at 0x148; the source gives no table (log entry 14). -/
def headerRomSize (cfg : Config) : Except CartridgeError (HeaderField Nat) := do
  let v ← headerByte cfg 0x148
  pure (.unknown v.toNat)

/-- The RAM size code at 0x149; the source gives no table (log entry 14). -/
def headerRamSize (cfg : Config) : Except CartridgeError (HeaderField Nat) := do
  let v ← headerByte cfg 0x149
  pure (.unknown v.toNat)

/-- The destination code at 0x14A. -/
def headerDestination (cfg : Config) : Except CartridgeError (HeaderField Destination) := do
  let v ← headerByte cfg 0x14A
  pure (if v = 0x00#8 then .known .international else if v = 0x01#8 then .known .japan
    else .unknown v.toNat)

/-- The recurrence of the header checksum over a list of bytes: `x <- x - byte - 1`, modulo 256 (R59). -/
def checksumOf (x : Byte) (bytes : List Byte) : Byte :=
  match bytes with
  | [] => x
  | v :: rest => checksumOf (x - v - 1#8) rest

/-- `verify_header_checksum`: the recurrence from 0 over 0x134 to 0x14C, compared with the byte at 0x14D
(R59). -/
def verifyHeaderChecksum (cfg : Config) : Except CartridgeError Bool := do
  let bytes ← headerBytes cfg 0x134 25
  let stored ← headerByte cfg 0x14D
  pure (checksumOf 0#8 bytes == stored)

end Sys2Proof.Machine
end

