-- ==== Sys2Proof/Safety.lean ====
section
/-! DEFINITION. What claims call a good state and a good run: the invariant of the reachable states, the
return value of a step with the rolled-back state (R89, R90), and the ends of a run (R93). -/

namespace Sys2Proof.Machine

/-- The canonical form of the RAM list: canonical as a list, and every cell at an address of ERAM, WRAM or
HRAM (R31). -/
abbrev ramWf (m : Memory) : Prop :=
  Memory.wf m ∧ ∀ x ∈ m, x.1 < 65536 ∧ (regionOf (BitVec.ofNat 16 x.1)).isRam = true

/-- The canonical form of the ROM image: canonical as a list, and every cell below `ROM_LEN` (R57). -/
abbrev romWf (cfg : Config) : Prop :=
  Memory.wf cfg.rom ∧ ∀ x ∈ cfg.rom, x.1 < cfg.romLen

/-- The invariant: bits 3..0 of F are 0 (R25), and memory is in its canonical form. -/
abbrev State.Inv (s : State) : Prop :=
  s.f &&& 0x0F#8 = 0x00#8 ∧ ramWf s.mem ∧ romWf s.cfg

/-- Launch parameters whose memory is in its canonical form; every contents of the arrays and of the ROM image
has one such form. -/
abbrev Launch.wf (p : Launch) : Prop := ramWf p.initMem ∧ romWf p.cfg

/-- A terminal state: Halted or Stopped (R28, R93). -/
def State.terminal (s : State) : Bool :=
  match s.mode with
  | .running => false
  | .halted | .stopped => true

/-- The state with which a step returns (R83): the new one when it ends `Ok`, and the state of before the step
when it faults (R90). -/
def stateAfter (s : State) : State :=
  match step s with
  | .next t => t
  | .fault _ => s
  | .refused _ => s

/-- How a run ends (R93). -/
inductive RunEnd where
  /-- The machine is Halted or Stopped. -/
  | terminal
  /-- A step returned a fault; the run is never a successful one. -/
  | faulted (e : Fault)
  /-- The host stopped calling `step`. -/
  | hostStopped
  /-- The model refused an instruction; no arm of `exec` does. -/
  | refused (r : Refusal)
deriving DecidableEq, Repr

/-- A run of at most `k` steps (R93): the last state, and how the run ended. -/
def runFor (k : Nat) (s : State) : State × RunEnd :=
  match k with
  | 0 => (s, if s.terminal then .terminal else .hostStopped)
  | k + 1 =>
    if s.terminal then (s, .terminal)
    else
      match step s with
      | .next t => runFor k t
      | .fault e => (s, .faulted e)
      | .refused r => (s, .refused r)

/-- A safe run: no fault is recorded (R93). -/
def safeFor (k : Nat) (s : State) : Bool :=
  match (runFor k s).2 with
  | .terminal | .hostStopped => true
  | .faulted _ | .refused _ => false

end Sys2Proof.Machine
end

