-- ==== Sys2Proof/Certificates/Slice0/Obligations.lean ====
section
/-! DEFINITION. The statements for the provers, from the numbered rules of the spec.

A meaning starts after the fetch, so in a statement about `exec i s` the register PC of `s` is `pc_next` (R13,
log entry 8). A next state written as an equation on the whole state says the result and the frame at once:
every register, flag, byte of memory and parameter that the equation does not name is as it was. The names under
`Spec` write the spec's own tables and formulas with numbers, apart from the model's functions. -/

namespace Sys2Proof.Spec

open Sys2Proof.Machine

/-! ## Codes and bytes -/

/-- An opcode byte from a number. -/
def byteOf (n : Nat) : Byte := BitVec.ofNat 8 n

/-- The register codes of R63. -/
def regCode (r : Reg8) : Nat :=
  match r with
  | .b => 0
  | .c => 1
  | .d => 2
  | .e => 3
  | .h => 4
  | .l => 5
  | .a => 7

/-- The operand codes of R63. -/
def opndCode (o : Opnd8) : Nat :=
  match o with
  | .reg r => regCode r
  | .atHL => 6

/-- The codes of the field `pp` (R64). -/
def reg16Code (p : Reg16) : Nat :=
  match p with
  | .bc => 0
  | .de => 1
  | .hl => 2
  | .sp => 3

/-- The codes of the field `qq` (R65). -/
def pairCode (p : Pair) : Nat :=
  match p with
  | .bc => 0
  | .de => 1
  | .hl => 2
  | .af => 3

/-- The codes of the field `cc` (R66). -/
def condCode (cc : Cond) : Nat :=
  match cc with
  | .nz => 0
  | .z => 1
  | .nc => 2
  | .c => 3

/-- The codes of the rotates and shifts (R68). -/
def rotCode (op : RotOp) : Nat :=
  match op with
  | .rlc => 0
  | .rrc => 1
  | .rl => 2
  | .rr => 3
  | .sla => 4
  | .sra => 5
  | .swap => 6
  | .srl => 7

/-- The eleven undefined opcodes (R78). -/
def undefinedOpcodes : List Byte :=
  [0xD3#8, 0xDB#8, 0xDD#8, 0xE3#8, 0xE4#8, 0xEB#8, 0xEC#8, 0xED#8, 0xF4#8, 0xFC#8, 0xFD#8]

/-- The length of an instruction from its first byte, by the lists of R74. -/
def lengthOf (op : Byte) : Nat :=
  if op.toNat ∈ [0x01, 0x11, 0x21, 0x31, 0x08, 0xC2, 0xC3, 0xC4, 0xCA, 0xCC, 0xCD, 0xD2, 0xD4, 0xDA,
    0xDC, 0xEA, 0xFA] then 3
  else if op.toNat ∈ [0x06, 0x0E, 0x16, 0x1E, 0x26, 0x2E, 0x36, 0x3E, 0x10, 0x18, 0x20, 0x28, 0x30,
    0x38, 0xC6, 0xCE, 0xD6, 0xDE, 0xE6, 0xEE, 0xF6, 0xFE, 0xE0, 0xF0, 0xE8, 0xF8, 0xCB] then 2
  else 1

/-- The bytes `bytes` stand in memory from `addr` on, each readable. -/
def BytesAt (s : State) (addr : Word) (bytes : List Byte) : Prop :=
  ∀ k v, bytes[k]? = some v → memRead s (addr + BitVec.ofNat 16 k) = .ok v

/-! ## Flags (R22) -/

/-- A flag's weight in F. -/
def weight (b : Bool) (n : Byte) : Byte := if b then n else 0#8

/-- F with the four flags written and bits 3..0 as they were (R22, R24). -/
def flagsByte (old : Byte) (z n h c : Bool) : Byte :=
  (old &&& 0x0F#8) ||| weight z 0x80#8 ||| weight n 0x40#8 ||| weight h 0x20#8 ||| weight c 0x10#8

/-- F.Z, F.N, F.H and F.C (R22, R23). -/
def flagZ (s : State) : Bool := s.f.getLsbD 7
def flagN (s : State) : Bool := s.f.getLsbD 6
def flagH (s : State) : Bool := s.f.getLsbD 5
def flagC (s : State) : Bool := s.f.getLsbD 4

/-- The carry flag as a number, the carry-in of ADC and SBC. -/
def cin (s : State) : Nat := if flagC s then 1 else 0

/-- The condition codes (R87). -/
def condHolds (s : State) (cc : Cond) : Bool :=
  match cc with
  | .nz => !flagZ s
  | .z => flagZ s
  | .nc => !flagC s
  | .c => flagC s

/-! ## The address map (R35) -/

/-- VRAM, OAM and IO, where every access faults (R42). -/
def Unsupported (a : Word) : Prop :=
  (0x8000 ≤ a.toNat ∧ a.toNat ≤ 0x9FFF) ∨ (0xFE00 ≤ a.toNat ∧ a.toNat ≤ 0xFE9F) ∨
    (0xFF00 ≤ a.toNat ∧ a.toNat ≤ 0xFF7F)

/-- ERAM, WRAM, HRAM and IE, which store what is written to them (R37). -/
def Storage (a : Word) : Prop :=
  (0xA000 ≤ a.toNat ∧ a.toNat ≤ 0xDFFF) ∨ 0xFF80 ≤ a.toNat

/-- What an address that a byte `v` was written to reads as afterwards: `v` where it is stored, what it read as
before where the write is discarded (R37, R38, R41). -/
def HoldsAfter (s t : State) (addr : Word) (v : Byte) : Prop :=
  (Storage addr → memRead t addr = .ok v) ∧ (¬ Storage addr → memRead t addr = memRead s addr)

/-- The effect of one byte written at `addr`: nothing but memory and IE changes, every other address reads as
before, and the address itself as `HoldsAfter` says; a discarded write changes nothing at all. -/
def ByteStored (s t : State) (addr : Word) (v : Byte) : Prop :=
  t = { s with mem := t.mem, ie := t.ie } ∧
  (∀ x, x ≠ addr → memRead t x = memRead s x) ∧
  HoldsAfter s t addr v ∧
  (¬ Storage addr → t = s)

/-- The effect of a word written at `addr`, little-endian: nothing but memory and IE changes, and every address
outside the two bytes reads as before (R44, R45). -/
def WordStored (s t : State) (addr : Word) (v : Word) : Prop :=
  t = { s with mem := t.mem, ie := t.ie } ∧
  (∀ x, x ≠ addr → x ≠ addr + 1#16 → memRead t x = memRead s x) ∧
  HoldsAfter s t addr (v.extractLsb' 0 8) ∧
  HoldsAfter s t (addr + 1#16) (v.extractLsb' 8 8)

/-- The fault of a word access whose bytes are accessed at `first` and then at `second` (R91, R185). -/
def firstWriteFault (first second : Word) (e : Fault) : Prop :=
  (Unsupported first ∧ e = .unsupportedAddress first .write) ∨
    (¬ Unsupported first ∧ Unsupported second ∧ e = .unsupportedAddress second .write)

/-! ## Operands and results -/

/-- HL, the high byte H (R18, R19). -/
def hl (s : State) : Word := BitVec.ofNat 16 (s.h.toNat * 256 + s.l.toNat)

/-- The value of a register of the field `pp` (R64). -/
def reg16 (s : State) (p : Reg16) : Word :=
  match p with
  | .bc => BitVec.ofNat 16 (s.b.toNat * 256 + s.c.toNat)
  | .de => BitVec.ofNat 16 (s.d.toNat * 256 + s.e.toNat)
  | .hl => hl s
  | .sp => s.sp

/-- A register of the field `pp` written, and nothing else (R20, R64). -/
def withReg16 (s : State) (p : Reg16) (v : Word) : State :=
  match p with
  | .bc => { s with b := v.extractLsb' 8 8, c := v.extractLsb' 0 8 }
  | .de => { s with d := v.extractLsb' 8 8, e := v.extractLsb' 0 8 }
  | .hl => { s with h := v.extractLsb' 8 8, l := v.extractLsb' 0 8 }
  | .sp => { s with sp := v }

/-- The value of an 8-bit operand (R63, R122). -/
def operand (s : State) (o : Opnd8) : Except Fault Byte :=
  match o with
  | .reg r => .ok (s.reg r)
  | .atHL => memRead s (hl s)

/-- An instruction that loads from `addr`: with the byte read, the state `f` of it is next; a read that faults is
the fault of the step. -/
def LoadsFrom (i : Instr) (s : State) (addr : Word) (f : Byte → State) : Prop :=
  (∀ v, memRead s addr = .ok v → exec i s = .next (f v)) ∧
  (∀ e, memRead s addr = .error e → exec i s = .fault e)

/-- An instruction that stores `v` at `addr`, with `s'` the state of before with the registers as they are
afterwards: it completes wherever the address does not fault, and faults by name where it does. -/
def StoresTo (i : Instr) (s s' : State) (addr : Word) (v : Byte) : Prop :=
  (¬ Unsupported addr → ∃ t, exec i s = .next t ∧ ByteStored s' t addr v) ∧
  (Unsupported addr → exec i s = .fault (.unsupportedAddress addr .write))

/-- An instruction that replaces its operand `v` by `res` and F by `f`: a register, or the byte at the address in
HL, read before it is written (R132, R149). Where the read of `(HL)` succeeds the instruction completes. -/
def Replaces (i : Instr) (s : State) (o : Opnd8) (res : Byte → Byte) (f : Byte → Byte) : Prop :=
  match o with
  | .reg r => exec i s = .next { s.setReg r (res (s.reg r)) with f := f (s.reg r) }
  | .atHL =>
    (∀ v, memRead s (hl s) = .ok v →
      ∃ t, exec i s = .next t ∧ ByteStored { s with f := f v } t (hl s) (res v)) ∧
    (∀ e, memRead s (hl s) = .error e → exec i s = .fault e)

/-- An instruction that pushes PC, which is `pc_next`, and goes to `target` (R48, R170): it completes wherever the
two stack bytes do not fault, and the byte at SP-1 is written first. -/
def CallsTo (i : Instr) (s : State) (target : Word) : Prop :=
  (¬ Unsupported (s.sp - 1#16) → ¬ Unsupported (s.sp - 2#16) →
    ∃ t, exec i s = .next t ∧
      WordStored { s with sp := s.sp - 2#16, pc := target } t (s.sp - 2#16) s.pc) ∧
  (∀ e, firstWriteFault (s.sp - 1#16) (s.sp - 2#16) e → exec i s = .fault e)

/-- An instruction that pops a word, low byte first, and goes on to `f` of it with SP two higher (R49). -/
def PopsTo (i : Instr) (s : State) (f : Word → State → State) : Prop :=
  (∀ lo hi, memRead s s.sp = .ok lo → memRead s (s.sp + 1#16) = .ok hi →
    exec i s = .next (f (hi ++ lo) { s with sp := s.sp + 2#16 })) ∧
  (∀ e, memRead s s.sp = .error e → exec i s = .fault e) ∧
  (∀ lo e, memRead s s.sp = .ok lo → memRead s (s.sp + 1#16) = .error e → exec i s = .fault e)

/-- A binary operation on A in its three forms (R122): `f` is the state after it, from the right operand. -/
def Binary (op : AluOp) (code : Nat) (s : State) (f : Byte → State) : Prop :=
  (∀ o, encode (Instr.alu op o) = [byteOf (0x80 + 8 * code + opndCode o)] ∧
    (∀ v, operand s o = .ok v → exec (Instr.alu op o) s = .next (f v)) ∧
    (∀ e, operand s o = .error e → exec (Instr.alu op o) s = .fault e)) ∧
  (∀ n8, encode (Instr.aluImm op n8) = [byteOf (0xC6 + 8 * code), n8] ∧
    exec (Instr.aluImm op n8) s = .next (f n8))

/-- The rotates and shifts on numbers: the result and the bit that goes to C (R147, R148). -/
def rotated (op : RotOp) (v : Nat) (cin : Nat) : Nat × Bool :=
  match op with
  | .rlc => (v * 2 % 256 + v / 128, decide (v / 128 = 1))
  | .rrc => (v / 2 + 128 * (v % 2), decide (v % 2 = 1))
  | .rl => (v * 2 % 256 + cin, decide (v / 128 = 1))
  | .rr => (v / 2 + 128 * cin, decide (v % 2 = 1))
  | .sla => (v * 2 % 256, decide (v / 128 = 1))
  | .sra => (v / 2 + 128 * (v / 128), decide (v % 2 = 1))
  | .swap => (v / 16 + 16 * (v % 16), false)
  | .srl => (v / 2, decide (v % 2 = 1))

/-- A number below 100 in binary-coded decimal. -/
def bcd (n : Nat) : Byte := BitVec.ofNat 8 (n / 10 * 16 + n % 10)

/-- The rows of the address map (R35): first and last address and region. -/
def addressMap : List (Nat × Nat × Region) :=
  [(0x0000, 0x7FFF, .rom), (0x8000, 0x9FFF, .vram), (0xA000, 0xBFFF, .eram), (0xC000, 0xDFFF, .wram),
   (0xE000, 0xFDFF, .echo), (0xFE00, 0xFE9F, .oam), (0xFEA0, 0xFEFF, .unusable), (0xFF00, 0xFF7F, .io),
   (0xFF80, 0xFFFE, .hram), (0xFFFF, 0xFFFF, .ie)]

end Sys2Proof.Spec

open Sys2Proof Sys2Proof.Machine Sys2Proof.Spec

/-! ## Encoding -/

/-- Words written out from the fields of R62 decode to the instruction they stand for, one or more of each
family (R75, R77). -/
def Obligations.WrittenOutWordsDecode : Prop :=
  decode false [0b01000001#8] = .ok (.ld_b_c, []) ∧
  decode false [0b00111110#8, 0x7F#8] = .ok (.ld_a_n8 0x7F#8, []) ∧
  decode false [0b00100001#8, 0x00#8, 0xC0#8] = .ok (.ld_hl_n16 0xC000#16, []) ∧
  decode false [0b11110101#8] = .ok (.push_af, []) ∧
  decode false [0b10001110#8] = .ok (.adc_a_atHL, []) ∧
  decode false [0b00111001#8] = .ok (.add_hl_sp, []) ∧
  decode false [0b00100111#8] = .ok (.daa, []) ∧
  decode false [0b00111000#8, 0x10#8] = .ok (.jr_c_e8 0x10#8, []) ∧
  decode false [0b11101111#8] = .ok (.rst_28h, []) ∧
  decode false [0b11001011#8] = .ok (.prefix_cb, []) ∧
  decode true [0b11001011#8, 0b01111100#8] = .ok (.bit_7_h, []) ∧
  decode true [0b11001011#8, 0b00110110#8] = .ok (.swap_atHL, []) ∧
  decode true [0b11010011#8] = .ok (.undefined_d3, [])

/-- Decoding the encoding of an instruction gives it back, with every operand, whatever bytes follow. -/
def Obligations.DecodeOfEncode : Prop :=
  ∀ (cb : Bool) (i : Instr) (rest : List Byte), i.wf cb = true →
    decode cb (encode i ++ rest) = .ok (i, rest)

/-- The bytes of a decoded instruction are its encoding: every byte string that decodes has one reading, and only
instructions of the setting of `CB_ENABLED` are read. -/
def Obligations.EncodeOfDecode : Prop :=
  ∀ (cb : Bool) (bytes rest : List Byte) (i : Instr), decode cb bytes = .ok (i, rest) →
    i.wf cb = true ∧ encode i ++ rest = bytes

/-- The first byte alone says how many bytes an instruction has, by the lists of R74, and a list decodes exactly when
it is that long. With `CB_ENABLED` false nothing is read after the 0xCB byte (R181). -/
def Obligations.LengthFromFirstByte : Prop :=
  ∀ (cb : Bool) (op : Byte) (rest : List Byte) (n : Nat),
    n = (if op = 0xCB#8 ∧ cb = false then 1 else lengthOf op) →
    (n ≤ 1 + rest.length → ∃ i, decode cb (op :: rest) = .ok (i, rest.drop (n - 1))) ∧
    (1 + rest.length < n → decode cb (op :: rest) = .error (.truncated op))

/-! ## The step -/

/-- When the bytes at PC decode to an instruction, a step is that instruction's meaning with PC moved past its
bytes (R83, R84, R85). -/
def Obligations.StepRunsDecodedInstruction : Prop :=
  ∀ (s : State) (bytes : List Byte) (i : Instr), s.mode = .running → BytesAt s s.pc bytes →
    decode s.cfg.cbEnabled bytes = .ok (i, []) →
    step s = exec i { s with pc := s.pc + BitVec.ofNat 16 bytes.length }

/-- When the bytes at PC are not yet a whole instruction and the fetch of the next one faults, the step faults with
that fault (R84, R85, R185). -/
def Obligations.FetchFaultEndsStep : Prop :=
  ∀ (s : State) (bytes : List Byte) (d : DecodeError) (e : Fault), s.mode = .running →
    BytesAt s s.pc bytes → decode s.cfg.cbEnabled bytes = .error d →
    memRead s (s.pc + BitVec.ofNat 16 bytes.length) = .error e →
    step s = .fault e

/-- In Halted and Stopped a step returns the same state (R92). -/
def Obligations.HaltedAndStoppedStepsAreNoOps : Prop :=
  ∀ s : State, (s.mode = .halted ∨ s.mode = .stopped) → step s = .next s

/-- An undefined opcode faults with its byte and its address, whatever stands after it (R182); its meaning is that
stop on every path. -/
def Obligations.UndefinedOpcodesFault : Prop :=
  (∀ (s : State) (op : Byte), s.mode = .running → op ∈ undefinedOpcodes → memRead s s.pc = .ok op →
    step s = .fault (.unimplementedOpcode op s.pc)) ∧
  (∀ s : State,
    exec .undefined_d3 s = .fault (.unimplementedOpcode 0xD3#8 (s.pc - 1#16)) ∧
    exec .undefined_db s = .fault (.unimplementedOpcode 0xDB#8 (s.pc - 1#16)) ∧
    exec .undefined_dd s = .fault (.unimplementedOpcode 0xDD#8 (s.pc - 1#16)) ∧
    exec .undefined_e3 s = .fault (.unimplementedOpcode 0xE3#8 (s.pc - 1#16)) ∧
    exec .undefined_e4 s = .fault (.unimplementedOpcode 0xE4#8 (s.pc - 1#16)) ∧
    exec .undefined_eb s = .fault (.unimplementedOpcode 0xEB#8 (s.pc - 1#16)) ∧
    exec .undefined_ec s = .fault (.unimplementedOpcode 0xEC#8 (s.pc - 1#16)) ∧
    exec .undefined_ed s = .fault (.unimplementedOpcode 0xED#8 (s.pc - 1#16)) ∧
    exec .undefined_f4 s = .fault (.unimplementedOpcode 0xF4#8 (s.pc - 1#16)) ∧
    exec .undefined_fc s = .fault (.unimplementedOpcode 0xFC#8 (s.pc - 1#16)) ∧
    exec .undefined_fd s = .fault (.unimplementedOpcode 0xFD#8 (s.pc - 1#16)))

/-- The 0xCB byte (R181). With `CB_ENABLED` false the step faults at its address and the next byte is not fetched.
With it true the CB opcode is fetched, a failing fetch is the fault, and the instruction that it selects runs; on
a register operand that always completes, with PC past the two bytes. -/
def Obligations.PrefixByteSelectsCbMap : Prop :=
  (∀ s : State, s.mode = .running → s.cfg.cbEnabled = false → memRead s s.pc = .ok 0xCB#8 →
    step s = .fault (.unimplementedOpcode 0xCB#8 s.pc)) ∧
  (∀ s : State, s.cfg.cbEnabled = false →
    exec .prefix_cb s = .fault (.unimplementedOpcode 0xCB#8 (s.pc - 1#16))) ∧
  (∀ (s : State) (e : Fault), s.cfg.cbEnabled = true → memRead s s.pc = .error e →
    exec .prefix_cb s = .fault e) ∧
  (∀ (s : State) (o : Byte) (i : Instr), s.cfg.cbEnabled = true → memRead s s.pc = .ok o →
    decode true [0xCB#8, o] = .ok (i, []) →
    exec .prefix_cb s = exec i { s with pc := s.pc + 1#16 }) ∧
  (∀ (s : State) (o : Byte), s.cfg.cbEnabled = true → memRead s s.pc = .ok o → o.toNat % 8 ≠ 6 →
    ∃ t, exec .prefix_cb s = .next t ∧ t.pc = s.pc + 1#16 ∧ t.mem = s.mem ∧ t.ie = s.ie)

/-- No instruction of the CB map runs when `CB_ENABLED` is false (R149): its meaning is then the fault at the 0xCB
byte, two bytes before `pc_next` (log entry 11). -/
def Obligations.CbMapNeedsCbEnabled : Prop :=
  ∀ (i : Instr) (s : State), i.kind = .cbTable → s.cfg.cbEnabled = false →
    exec i s = .fault (.unimplementedOpcode 0xCB#8 (s.pc - 2#16))

/-- No step is refused (R89), and a step that faults returns one of the two faults of the taxonomy, on the condition
the table gives it (R183): an access to VRAM, OAM or IO; a read of ROM at or beyond `ROM_LEN`; or, at the address
of the instruction, an undefined opcode or 0xCB with `CB_ENABLED` false. -/
def Obligations.StepFaultsAreOfTheTaxonomy : Prop :=
  (∀ (s : State) (r : Refusal), step s ≠ .refused r) ∧
  ∀ (s : State) (e : Fault), step s = .fault e →
    (∃ addr kind, e = .unsupportedAddress addr kind ∧ Unsupported addr) ∨
    (∃ addr, e = .unsupportedAddress addr .read ∧ addr.toNat ≤ 0x7FFF ∧ s.cfg.romLen ≤ addr.toNat) ∨
    (∃ op, e = .unimplementedOpcode op s.pc ∧ memRead s s.pc = .ok op ∧
      (op ∈ undefinedOpcodes ∨ (op = 0xCB#8 ∧ s.cfg.cbEnabled = false)))

/-- The word placed by `withFetchWord` is fetched and run by the next step as the instruction the decoder reads from
it. The numbering of the word and the place of the instruction are the model's choices (log entries 10
and 12). -/
def Obligations.FetchWordIsRun : Prop :=
  ∀ (s : State) (nbits w : Nat) (i : Instr), decodeTableWord nbits w = some i →
    step (s.withFetchWord nbits w) =
      exec i
        { s.withFetchWord nbits w with
          pc := (s.withFetchWord nbits w).pc + BitVec.ofNat 16 (encode i).length }

/-! ## Memory -/

/-- Every address is in exactly one row of the address map, and the model puts it in that row's region (R35). -/
def Obligations.AddressMapIsPartition : Prop :=
  ∀ a : Word, ∃ r ∈ addressMap, (r.1 ≤ a.toNat ∧ a.toNat ≤ r.2.1) ∧ regionOf a = r.2.2 ∧
    ∀ r' ∈ addressMap, r'.1 ≤ a.toNat → a.toNat ≤ r'.2.1 → r' = r

/-- What a byte read returns, region by region (R36, R39, R41, R42). The bytes of ROM and of the RAM arrays are
those of the lists of cells. -/
def Obligations.ReadByteFollowsAddressMap : Prop :=
  ∀ (s : State) (a : Word),
    (a.toNat ≤ 0x7FFF → a.toNat < s.cfg.romLen → memRead s a = .ok (Memory.read s.cfg.rom a.toNat)) ∧
    (a.toNat ≤ 0x7FFF → s.cfg.romLen ≤ a.toNat → memRead s a = .error (.unsupportedAddress a .read)) ∧
    (Unsupported a → memRead s a = .error (.unsupportedAddress a .read)) ∧
    (0xA000 ≤ a.toNat → a.toNat ≤ 0xDFFF → memRead s a = .ok (Memory.read s.mem a.toNat)) ∧
    (0xE000 ≤ a.toNat → a.toNat ≤ 0xFDFF → memRead s a = .ok 0x00#8) ∧
    (0xFEA0 ≤ a.toNat → a.toNat ≤ 0xFEFF → memRead s a = .ok 0x00#8) ∧
    (0xFF80 ≤ a.toNat → a.toNat ≤ 0xFFFE → memRead s a = .ok (Memory.read s.mem a.toNat)) ∧
    (a.toNat = 0xFFFF → memRead s a = .ok s.ie)

/-- What a byte write does (R37, R38, R41, R42): it faults in VRAM, OAM and IO, changes one byte where there is
storage, and nothing anywhere else. -/
def Obligations.WriteByteFollowsAddressMap : Prop :=
  ∀ (s : State) (a : Word) (v : Byte),
    (Unsupported a → memWrite s a v = .error (.unsupportedAddress a .write)) ∧
    (¬ Unsupported a → ∃ t, memWrite s a v = .ok t ∧ ByteStored s t a v)

/-- Words are little-endian, two byte accesses with the low byte first, the address of the high byte wrapping, and
the first fault in that order reported (R43, R44, R45). -/
def Obligations.WordAccessIsLittleEndian : Prop :=
  (∀ (s : State) (a : Word) (lo hi : Byte), memRead s a = .ok lo → memRead s (a + 1#16) = .ok hi →
    memRead16 s a = .ok (hi ++ lo)) ∧
  (∀ (s : State) (a : Word) (e : Fault), memRead s a = .error e → memRead16 s a = .error e) ∧
  (∀ (s : State) (a : Word) (lo : Byte) (e : Fault), memRead s a = .ok lo →
    memRead s (a + 1#16) = .error e → memRead16 s a = .error e) ∧
  (∀ (s : State) (a v : Word), ¬ Unsupported a → ¬ Unsupported (a + 1#16) →
    ∃ t, memWrite16 s a v = .ok t ∧ WordStored s t a v) ∧
  (∀ (s : State) (a v : Word) (e : Fault), firstWriteFault a (a + 1#16) e → memWrite16 s a v = .error e)

/-- A word pushed where both stack bytes are storage is popped again, and SP is back where it was (R48, R49). -/
def Obligations.PopReturnsThePushedWord : Prop :=
  ∀ (s : State) (v : Word), Storage (s.sp - 1#16) → Storage (s.sp - 2#16) →
    ∃ t, push16 s v = .ok t ∧ t.sp = s.sp - 2#16 ∧ memRead16 t t.sp = .ok v ∧
      pop16 t = .ok (v, { t with sp := s.sp })

/-! ## Registers and flags -/

/-- A register written holds the value, and every other register, the flags, SP, PC, IME, the mode, memory and the
configuration are as they were (R15, R16). -/
def Obligations.RegisterWriteFrame : Prop :=
  ∀ (s : State) (r : Reg8) (v : Byte),
    (s.reg .b = s.b ∧ s.reg .c = s.c ∧ s.reg .d = s.d ∧ s.reg .e = s.e ∧ s.reg .h = s.h ∧ s.reg .l = s.l ∧
      s.reg .a = s.a) ∧
    (s.setReg r v).reg r = v ∧
    (∀ r', r' ≠ r → (s.setReg r v).reg r' = s.reg r') ∧
    (s.setReg r v).f = s.f ∧ (s.setReg r v).sp = s.sp ∧ (s.setReg r v).pc = s.pc ∧
    (s.setReg r v).ime = s.ime ∧ (s.setReg r v).mode = s.mode ∧ (s.setReg r v).mem = s.mem ∧
    (s.setReg r v).ie = s.ie ∧ (s.setReg r v).cfg = s.cfg

/-- A pair is a view of its two registers, the first one high; a pair written reads back, and nothing else changes;
AF reads back with bits 3..0 of F cleared (R18, R19, R20, R25). -/
def Obligations.PairsAreViews : Prop :=
  (∀ s : State, (s.pair .bc).toNat = s.b.toNat * 256 + s.c.toNat ∧
    (s.pair .de).toNat = s.d.toNat * 256 + s.e.toNat ∧
    (s.pair .hl).toNat = s.h.toNat * 256 + s.l.toNat ∧
    (s.pair .af).toNat = s.a.toNat * 256 + s.f.toNat) ∧
  (∀ (s : State) (v : Word),
    ((s.setPair .bc v).pair .bc = v ∧ s.setPair .bc v =
      { s with b := (s.setPair .bc v).b, c := (s.setPair .bc v).c }) ∧
    ((s.setPair .de v).pair .de = v ∧ s.setPair .de v =
      { s with d := (s.setPair .de v).d, e := (s.setPair .de v).e }) ∧
    ((s.setPair .hl v).pair .hl = v ∧ s.setPair .hl v =
      { s with h := (s.setPair .hl v).h, l := (s.setPair .hl v).l }) ∧
    ((s.setPair .af v).pair .af = v &&& 0xFFF0#16 ∧ s.setPair .af v =
      { s with a := (s.setPair .af v).a, f := (s.setPair .af v).f }))

/-- A flag written changes one bit of F: the other flags, bits 3..0 of F and everything else are as they were
(R22, R23, R24). -/
def Obligations.FlagWriteFrame : Prop :=
  ∀ (s : State) (b : Bool),
    s.setFlag .z b = { s with f := flagsByte s.f b (flagN s) (flagH s) (flagC s) } ∧
    s.setFlag .n b = { s with f := flagsByte s.f (flagZ s) b (flagH s) (flagC s) } ∧
    s.setFlag .h b = { s with f := flagsByte s.f (flagZ s) (flagN s) b (flagC s) } ∧
    s.setFlag .c b = { s with f := flagsByte s.f (flagZ s) (flagN s) (flagH s) b } ∧
    s.flag .z = flagZ s ∧ s.flag .n = flagN s ∧ s.flag .h = flagH s ∧ s.flag .c = flagC s

/-! ## 8-bit loads and stores -/

/-- `LD r,r'` and `LD r,n8` (R95, R96). -/
def Obligations.LoadRegisterFromRegisterOrImmediate : Prop :=
  ∀ s : State,
    (∀ dst r : Reg8, encode (Instr.ldRegReg dst r) = [byteOf (0x40 + 8 * regCode dst + regCode r)] ∧
      exec (Instr.ldRegReg dst r) s = .next (s.setReg dst (s.reg r))) ∧
    (∀ (dst : Reg8) (n8 : Byte), encode (Instr.ldRegImm dst n8) = [byteOf (0x06 + 8 * regCode dst), n8] ∧
      exec (Instr.ldRegImm dst n8) s = .next (s.setReg dst n8))

/-- The loads of a register from memory: `LD r,(HL)`, `LD A,(BC)`, `LD A,(DE)`, `LD A,(a16)`, `LDH A,(a8)` and
`LD A,(C)` (R97, R104, R105, R108, R110, R112). -/
def Obligations.LoadRegisterFromMemory : Prop :=
  ∀ s : State,
    (∀ dst : Reg8, encode (Instr.ldRegAtHL dst) = [byteOf (0x46 + 8 * regCode dst)] ∧
      LoadsFrom (Instr.ldRegAtHL dst) s (hl s) fun v => s.setReg dst v) ∧
    (encode .ld_a_atBC = [0x0A#8] ∧ LoadsFrom .ld_a_atBC s (s.b ++ s.c) fun v => { s with a := v }) ∧
    (encode .ld_a_atDE = [0x1A#8] ∧ LoadsFrom .ld_a_atDE s (s.d ++ s.e) fun v => { s with a := v }) ∧
    (∀ lo hi : Byte, encode (.ld_a_atA16 (hi ++ lo)) = [0xFA#8, lo, hi] ∧
      LoadsFrom (.ld_a_atA16 (hi ++ lo)) s (hi ++ lo) fun v => { s with a := v }) ∧
    (∀ a8 : Byte, encode (.ldh_a_atA8 a8) = [0xF0#8, a8] ∧
      LoadsFrom (.ldh_a_atA8 a8) s (BitVec.ofNat 16 (0xFF00 + a8.toNat)) fun v => { s with a := v }) ∧
    (encode .ld_a_atC = [0xF2#8] ∧
      LoadsFrom .ld_a_atC s (BitVec.ofNat 16 (0xFF00 + s.c.toNat)) fun v => { s with a := v })

/-- The stores of a byte: `LD (HL),r`, `LD (HL),n8`, `LD (BC),A`, `LD (DE),A`, `LD (a16),A`, `LDH (a8),A` and
`LD (C),A` (R98, R99, R106, R107, R109, R111, R113). -/
def Obligations.StoreByteToMemory : Prop :=
  ∀ s : State,
    (∀ r : Reg8, encode (Instr.ldAtHLReg r) = [byteOf (0x70 + regCode r)] ∧
      StoresTo (Instr.ldAtHLReg r) s s (hl s) (s.reg r)) ∧
    (∀ n8 : Byte, encode (.ld_atHL_n8 n8) = [0x36#8, n8] ∧ StoresTo (.ld_atHL_n8 n8) s s (hl s) n8) ∧
    (encode .ld_atBC_a = [0x02#8] ∧ StoresTo .ld_atBC_a s s (s.b ++ s.c) s.a) ∧
    (encode .ld_atDE_a = [0x12#8] ∧ StoresTo .ld_atDE_a s s (s.d ++ s.e) s.a) ∧
    (∀ lo hi : Byte, encode (.ld_atA16_a (hi ++ lo)) = [0xEA#8, lo, hi] ∧
      StoresTo (.ld_atA16_a (hi ++ lo)) s s (hi ++ lo) s.a) ∧
    (∀ a8 : Byte, encode (.ldh_atA8_a a8) = [0xE0#8, a8] ∧
      StoresTo (.ldh_atA8_a a8) s s (BitVec.ofNat 16 (0xFF00 + a8.toNat)) s.a) ∧
    (encode .ld_atC_a = [0xE2#8] ∧
      StoresTo .ld_atC_a s s (BitVec.ofNat 16 (0xFF00 + s.c.toNat)) s.a)

/-- `LD A,(HL+)` and `LD A,(HL-)`: A from the old HL, then HL one higher or lower, wrapping (R101, R103). -/
def Obligations.LoadAndStepHL : Prop :=
  ∀ s : State,
    (encode .ld_a_atHLInc = [0x2A#8] ∧ LoadsFrom .ld_a_atHLInc s (hl s) fun v =>
      { s with a := v, h := (hl s + 1#16).extractLsb' 8 8, l := (hl s + 1#16).extractLsb' 0 8 }) ∧
    (encode .ld_a_atHLDec = [0x3A#8] ∧ LoadsFrom .ld_a_atHLDec s (hl s) fun v =>
      { s with a := v, h := (hl s - 1#16).extractLsb' 8 8, l := (hl s - 1#16).extractLsb' 0 8 })

/-- `LD (HL+),A` and `LD (HL-),A`: A stored at the old HL, then HL one higher or lower, wrapping; on a fault HL is not
changed, since the step has no next state (R100, R102). -/
def Obligations.StoreAndStepHL : Prop :=
  ∀ s : State,
    (encode .ld_atHLInc_a = [0x22#8] ∧ StoresTo .ld_atHLInc_a s
      { s with h := (hl s + 1#16).extractLsb' 8 8, l := (hl s + 1#16).extractLsb' 0 8 } (hl s) s.a) ∧
    (encode .ld_atHLDec_a = [0x32#8] ∧ StoresTo .ld_atHLDec_a s
      { s with h := (hl s - 1#16).extractLsb' 8 8, l := (hl s - 1#16).extractLsb' 0 8 } (hl s) s.a)

/-! ## 16-bit loads and the stack -/

/-- `LD pp,n16` and `LD SP,HL` (R114, R115). -/
def Obligations.LoadWordRegister : Prop :=
  ∀ s : State,
    (∀ (p : Reg16) (lo hi : Byte),
      encode (Instr.ldReg16Imm p (hi ++ lo)) = [byteOf (0x01 + 16 * reg16Code p), lo, hi] ∧
      exec (Instr.ldReg16Imm p (hi ++ lo)) s = .next (withReg16 s p (hi ++ lo))) ∧
    (encode .ld_sp_hl = [0xF9#8] ∧ exec .ld_sp_hl s = .next { s with sp := hl s })

/-- `LD (a16),SP` stores SP little-endian (R116). -/
def Obligations.StoreStackPointer : Prop :=
  ∀ (s : State) (lo hi : Byte),
    encode (.ld_atA16_sp (hi ++ lo)) = [0x08#8, lo, hi] ∧
    (¬ Unsupported (hi ++ lo) → ¬ Unsupported ((hi ++ lo) + 1#16) →
      ∃ t, exec (.ld_atA16_sp (hi ++ lo)) s = .next t ∧ WordStored s t (hi ++ lo) s.sp) ∧
    (∀ e, firstWriteFault (hi ++ lo) ((hi ++ lo) + 1#16) e →
      exec (.ld_atA16_sp (hi ++ lo)) s = .fault e)

/-- `LD HL,SP+e8` and `ADD SP,e8`: the sum is signed, Z and N are cleared, and H and C are the carries of the unsigned
sum of the low bytes (R117, R143, R144). -/
def Obligations.StackPointerPlusOffset : Prop :=
  ∀ (s : State) (e8 : Byte) (res : Word) (f : Byte),
    res = s.sp + e8.signExtend 16 →
    f = flagsByte s.f false false (decide (s.sp.toNat % 16 + e8.toNat % 16 > 0xF))
      (decide (s.sp.toNat % 256 + e8.toNat > 0xFF)) →
    (encode (.ld_hl_spE8 e8) = [0xF8#8, e8] ∧
      exec (.ld_hl_spE8 e8) s =
        .next { s with h := res.extractLsb' 8 8, l := res.extractLsb' 0 8, f := f }) ∧
    (encode (.add_sp_e8 e8) = [0xE8#8, e8] ∧
      exec (.add_sp_e8 e8) s = .next { s with sp := res, f := f })

/-- `PUSH qq` stores the pair at SP-2 with the high byte at SP-1 and leaves SP two lower (R118). -/
def Obligations.PushPair : Prop :=
  ∀ (s : State) (q : Pair),
    encode (Instr.push q) = [byteOf (0xC5 + 16 * pairCode q)] ∧
    (¬ Unsupported (s.sp - 1#16) → ¬ Unsupported (s.sp - 2#16) →
      ∃ t, exec (Instr.push q) s = .next t ∧
        WordStored { s with sp := s.sp - 2#16 } t (s.sp - 2#16) (s.pair q)) ∧
    (∀ e, firstWriteFault (s.sp - 1#16) (s.sp - 2#16) e → exec (Instr.push q) s = .fault e)

/-- `POP qq` loads the pair from SP, low byte first, and leaves SP two higher; POP AF clears bits 3..0 of F
(R119, R120). -/
def Obligations.PopPair : Prop :=
  (∀ q : Pair, encode (Instr.pop q) = [byteOf (0xC1 + 16 * pairCode q)]) ∧
  (∀ s : State,
    PopsTo (Instr.pop .bc) s (fun v t => { t with b := v.extractLsb' 8 8, c := v.extractLsb' 0 8 }) ∧
    PopsTo (Instr.pop .de) s (fun v t => { t with d := v.extractLsb' 8 8, e := v.extractLsb' 0 8 }) ∧
    PopsTo (Instr.pop .hl) s (fun v t => { t with h := v.extractLsb' 8 8, l := v.extractLsb' 0 8 }) ∧
    PopsTo (Instr.pop .af) s
      (fun v t => { t with a := v.extractLsb' 8 8, f := v.extractLsb' 0 8 &&& 0xF0#8 }))

/-! ## 8-bit arithmetic and logic -/

/-- ADD and ADC: sums of numbers, narrowed at the end; the carry-in enters the result, H and C (R123, R124). -/
def Obligations.AddAndAddWithCarry : Prop :=
  ∀ s : State,
    (Binary .add 0 s fun v =>
      { s with
        a := BitVec.ofNat 8 (s.a.toNat + v.toNat)
        f := flagsByte s.f (decide ((s.a.toNat + v.toNat) % 256 = 0)) false
          (decide (s.a.toNat % 16 + v.toNat % 16 > 0xF)) (decide (s.a.toNat + v.toNat > 0xFF)) }) ∧
    (Binary .adc 1 s fun v =>
      { s with
        a := BitVec.ofNat 8 (s.a.toNat + v.toNat + cin s)
        f := flagsByte s.f (decide ((s.a.toNat + v.toNat + cin s) % 256 = 0)) false
          (decide (s.a.toNat % 16 + v.toNat % 16 + cin s > 0xF))
          (decide (s.a.toNat + v.toNat + cin s > 0xFF)) })

/-- SUB, SBC and CP: differences of numbers, narrowed at the end; CP writes the flags of SUB and no register
(R125, R126, R130). -/
def Obligations.SubtractAndCompare : Prop :=
  ∀ s : State,
    (Binary .sub 2 s fun v =>
      { s with
        a := BitVec.ofInt 8 (s.a.toNat - v.toNat)
        f := flagsByte s.f (decide (((s.a.toNat : Int) - v.toNat) % 256 = 0)) true
          (decide (s.a.toNat % 16 < v.toNat % 16)) (decide (s.a.toNat < v.toNat)) }) ∧
    (Binary .sbc 3 s fun v =>
      { s with
        a := BitVec.ofInt 8 (s.a.toNat - v.toNat - cin s)
        f := flagsByte s.f (decide (((s.a.toNat : Int) - v.toNat - cin s) % 256 = 0)) true
          (decide (s.a.toNat % 16 < v.toNat % 16 + cin s)) (decide (s.a.toNat < v.toNat + cin s)) }) ∧
    (Binary .cp 7 s fun v =>
      { s with
        f := flagsByte s.f (decide (s.a = v)) true (decide (s.a.toNat % 16 < v.toNat % 16))
          (decide (s.a.toNat < v.toNat)) })

/-- AND, XOR and OR; H of AND is the parameter `AND_SETS_H` (R127, R128, R129). -/
def Obligations.BitwiseLogic : Prop :=
  ∀ s : State,
    (Binary .and 4 s fun v =>
      { s with
        a := s.a &&& v
        f := flagsByte s.f (decide (s.a &&& v = 0#8)) false s.cfg.andSetsH false }) ∧
    (Binary .xor 5 s fun v =>
      { s with a := s.a ^^^ v, f := flagsByte s.f (decide (s.a ^^^ v = 0#8)) false false false }) ∧
    (Binary .or 6 s fun v =>
      { s with a := s.a ||| v, f := flagsByte s.f (decide (s.a ||| v = 0#8)) false false false })

/-- INC and DEC of a register or of the byte at the address in HL; C is left (R131, R132, R133, R134). -/
def Obligations.IncrementAndDecrementByte : Prop :=
  ∀ (s : State) (o : Opnd8),
    (encode (Instr.inc8 o) = [byteOf (0x04 + 8 * opndCode o)] ∧
      Replaces (Instr.inc8 o) s o (fun v => BitVec.ofNat 8 (v.toNat + 1)) fun v =>
        flagsByte s.f (decide (v.toNat = 0xFF)) false (decide (v.toNat % 16 = 0xF)) (flagC s)) ∧
    (encode (Instr.dec8 o) = [byteOf (0x05 + 8 * opndCode o)] ∧
      Replaces (Instr.dec8 o) s o (fun v => BitVec.ofInt 8 (v.toNat - 1)) fun v =>
        flagsByte s.f (decide (v.toNat = 1)) true (decide (v.toNat % 16 = 0)) (flagC s))

/-- DAA, case by case of the pseudocode of R135: after an addition the corrections are chosen from A and the flags,
after a subtraction from the flags alone; N is kept, H is cleared, Z is of the new A. -/
def Obligations.DecimalAdjust : Prop :=
  encode .daa = [0x27#8] ∧
  ∀ s : State,
    (flagN s = false → ∀ high low : Nat,
      high = (if flagC s ∨ s.a.toNat > 0x99 then 0x60 else 0) →
      low = (if flagH s ∨ s.a.toNat % 16 > 9 then 0x06 else 0) →
      exec .daa s = .next { s with
        a := BitVec.ofNat 8 (s.a.toNat + high + low)
        f := flagsByte s.f (decide ((s.a.toNat + high + low) % 256 = 0)) false false
          (flagC s || decide (s.a.toNat > 0x99)) }) ∧
    (flagN s = true → ∀ high low : Nat,
      high = (if flagC s then 0x60 else 0) → low = (if flagH s then 0x06 else 0) →
      exec .daa s = .next { s with
        a := BitVec.ofInt 8 (s.a.toNat - high - low)
        f := flagsByte s.f (decide (((s.a.toNat : Int) - high - low) % 256 = 0)) true false (flagC s) })

/-- DAA makes decimal arithmetic: an ADD or SUB of two binary-coded decimal bytes followed by DAA leaves the decimal
sum or difference modulo 100, and the carry flag says whether it left the range 0 to 99 (the glossary's DAA,
R123, R125, R135). -/
def Obligations.DecimalAdjustGivesDecimalArithmetic : Prop :=
  ∀ (s : State) (x y : Nat), x < 100 → y < 100 → s.a = bcd x →
    (∃ t u, exec (Instr.aluImm .add (bcd y)) s = .next t ∧ exec .daa t = .next u ∧
      u.a = bcd ((x + y) % 100) ∧ flagC u = decide (100 ≤ x + y)) ∧
    (∃ t u, exec (Instr.aluImm .sub (bcd y)) s = .next t ∧ exec .daa t = .next u ∧
      u.a = bcd ((x + 100 - y) % 100) ∧ flagC u = decide (x < y))

/-- CPL, SCF and CCF (R136, R137, R138). -/
def Obligations.ComplementAndCarryFlag : Prop :=
  ∀ s : State,
    (encode .cpl = [0x2F#8] ∧ exec .cpl s = .next { s with
      a := s.a ^^^ 0xFF#8, f := flagsByte s.f (flagZ s) true true (flagC s) }) ∧
    (encode .scf = [0x37#8] ∧ exec .scf s = .next { s with f := flagsByte s.f (flagZ s) false false true }) ∧
    (encode .ccf = [0x3F#8] ∧ exec .ccf s = .next { s with
      f := flagsByte s.f (flagZ s) false false (!flagC s) })

/-! ## 16-bit arithmetic -/

/-- `INC pp` and `DEC pp` wrap and write no flag (R140, R141). -/
def Obligations.IncrementAndDecrementWord : Prop :=
  ∀ (s : State) (p : Reg16),
    (encode (Instr.incReg16 p) = [byteOf (0x03 + 16 * reg16Code p)] ∧
      exec (Instr.incReg16 p) s = .next (withReg16 s p (BitVec.ofNat 16 ((reg16 s p).toNat + 1)))) ∧
    (encode (Instr.decReg16 p) = [byteOf (0x0B + 16 * reg16Code p)] ∧
      exec (Instr.decReg16 p) s = .next (withReg16 s p (BitVec.ofInt 16 ((reg16 s p).toNat - 1))))

/-- `ADD HL,pp`: H is the carry out of bit 11, C the carry out of bit 15, Z is left (R142). -/
def Obligations.AddWordToHL : Prop :=
  ∀ (s : State) (p : Reg16) (a b : Nat), a = (hl s).toNat → b = (reg16 s p).toNat →
    encode (Instr.addHL p) = [byteOf (0x09 + 16 * reg16Code p)] ∧
    exec (Instr.addHL p) s = .next { s with
      h := (BitVec.ofNat 16 (a + b)).extractLsb' 8 8
      l := (BitVec.ofNat 16 (a + b)).extractLsb' 0 8
      f := flagsByte s.f (flagZ s) false (decide (a % 0x1000 + b % 0x1000 > 0x0FFF))
        (decide (a + b > 0xFFFF)) }

/-! ## Rotates, shifts and bits -/

/-- RLCA, RRCA, RLA and RRA: the rotates of A with Z cleared (R150, R151, R152, R153). -/
def Obligations.AccumulatorRotates : Prop :=
  ∀ (s : State) (r : RotOp → Nat × Bool), (∀ op, r op = rotated op s.a.toNat (cin s)) →
    (encode .rlca = [0x07#8] ∧ exec .rlca s = .next { s with
      a := BitVec.ofNat 8 (r .rlc).1, f := flagsByte s.f false false false (r .rlc).2 }) ∧
    (encode .rrca = [0x0F#8] ∧ exec .rrca s = .next { s with
      a := BitVec.ofNat 8 (r .rrc).1, f := flagsByte s.f false false false (r .rrc).2 }) ∧
    (encode .rla = [0x17#8] ∧ exec .rla s = .next { s with
      a := BitVec.ofNat 8 (r .rl).1, f := flagsByte s.f false false false (r .rl).2 }) ∧
    (encode .rra = [0x1F#8] ∧ exec .rra s = .next { s with
      a := BitVec.ofNat 8 (r .rr).1, f := flagsByte s.f false false false (r .rr).2 })

/-- The eight rotates and shifts of the CB map on a register or on the byte at the address in HL, when `CB_ENABLED` is
true: Z of the result, N and H cleared, C the bit shifted out, 0 for SWAP (R147, R148, R154 to R161). -/
def Obligations.CbRotatesAndShifts : Prop :=
  ∀ (s : State) (op : RotOp) (o : Opnd8), s.cfg.cbEnabled = true →
    encode (Instr.rot op o) = [0xCB#8, byteOf (8 * rotCode op + opndCode o)] ∧
    Replaces (Instr.rot op o) s o (fun v => BitVec.ofNat 8 (rotated op v.toNat (cin s)).1) fun v =>
      flagsByte s.f (decide ((rotated op v.toNat (cin s)).1 = 0)) false false
        (rotated op v.toNat (cin s)).2

/-- `BIT b,r` when `CB_ENABLED` is true: Z is the complement of the bit, N is cleared, H set, C left; nothing but F is
written (R162). -/
def Obligations.CbBitTest : Prop :=
  ∀ (s : State) (b : Fin 8) (o : Opnd8), s.cfg.cbEnabled = true →
    encode (Instr.bit b o) = [0xCB#8, byteOf (0x40 + 8 * b.val + opndCode o)] ∧
    (∀ v, operand s o = .ok v → exec (Instr.bit b o) s =
      .next { s with f := flagsByte s.f (decide (v.toNat / 2 ^ b.val % 2 = 0)) false true (flagC s) }) ∧
    (∀ e, operand s o = .error e → exec (Instr.bit b o) s = .fault e)

/-- `RES b,r` and `SET b,r` when `CB_ENABLED` is true: one bit of the operand cleared or set, no flag written
(R163, R164). -/
def Obligations.CbBitResetAndSet : Prop :=
  ∀ (s : State) (b : Fin 8) (o : Opnd8), s.cfg.cbEnabled = true →
    (encode (Instr.res b o) = [0xCB#8, byteOf (0x80 + 8 * b.val + opndCode o)] ∧
      Replaces (Instr.res b o) s o (fun v => v &&& ~~~(BitVec.ofNat 8 (2 ^ b.val))) fun _ => s.f) ∧
    (encode (Instr.set b o) = [0xCB#8, byteOf (0xC0 + 8 * b.val + opndCode o)] ∧
      Replaces (Instr.set b o) s o (fun v => v ||| BitVec.ofNat 8 (2 ^ b.val)) fun _ => s.f)

/-! ## Control transfer -/

/-- `JP a16`, `JP cc,a16` and `JP (HL)`; not taken, nothing changes (R88, R165, R166, R167). -/
def Obligations.Jumps : Prop :=
  ∀ (s : State) (lo hi : Byte),
    (encode (.jp_a16 (hi ++ lo)) = [0xC3#8, lo, hi] ∧
      exec (.jp_a16 (hi ++ lo)) s = .next { s with pc := hi ++ lo }) ∧
    (∀ cc, encode (Instr.jpCond cc (hi ++ lo)) = [byteOf (0xC2 + 8 * condCode cc), lo, hi] ∧
      exec (Instr.jpCond cc (hi ++ lo)) s =
        .next (if condHolds s cc then { s with pc := hi ++ lo } else s)) ∧
    (encode .jp_atHL = [0xE9#8] ∧ exec .jp_atHL s = .next { s with pc := hl s })

/-- `JR e8` and `JR cc,e8`: the target is `pc_next` plus the signed offset, wrapping; not taken, nothing changes
(R72, R88, R168, R169). -/
def Obligations.RelativeJumps : Prop :=
  ∀ (s : State) (e8 : Byte),
    (encode (.jr_e8 e8) = [0x18#8, e8] ∧
      exec (.jr_e8 e8) s = .next { s with pc := s.pc + e8.signExtend 16 }) ∧
    (∀ cc, encode (Instr.jrCond cc e8) = [byteOf (0x20 + 8 * condCode cc), e8] ∧
      exec (Instr.jrCond cc e8) s =
        .next (if condHolds s cc then { s with pc := s.pc + e8.signExtend 16 } else s))

/-- `CALL a16`, `CALL cc,a16` and `RST t`: `pc_next` is pushed, high byte first, and PC is the target; not taken,
nothing is pushed (R88, R170, R171, R175). -/
def Obligations.CallsAndRestarts : Prop :=
  ∀ s : State,
    (∀ lo hi : Byte, encode (.call_a16 (hi ++ lo)) = [0xCD#8, lo, hi] ∧
      CallsTo (.call_a16 (hi ++ lo)) s (hi ++ lo)) ∧
    (∀ (cc : Cond) (lo hi : Byte),
      encode (Instr.callCond cc (hi ++ lo)) = [byteOf (0xC4 + 8 * condCode cc), lo, hi] ∧
      (condHolds s cc = true → CallsTo (Instr.callCond cc (hi ++ lo)) s (hi ++ lo)) ∧
      (condHolds s cc = false → exec (Instr.callCond cc (hi ++ lo)) s = .next s)) ∧
    (∀ y : Fin 8, encode (Instr.rst y) = [byteOf (0xC7 + 8 * y.val)] ∧
      CallsTo (Instr.rst y) s (BitVec.ofNat 16 (8 * y.val)))

/-- RET, `RET cc` and RETI: PC is the popped word and SP two higher; RETI also sets IME; not taken, nothing is popped
(R88, R172, R173, R174). -/
def Obligations.Returns : Prop :=
  ∀ s : State,
    (encode .ret = [0xC9#8] ∧ PopsTo .ret s fun v t => { t with pc := v }) ∧
    (∀ cc : Cond, encode (Instr.retCond cc) = [byteOf (0xC0 + 8 * condCode cc)] ∧
      (condHolds s cc = true → PopsTo (Instr.retCond cc) s fun v t => { t with pc := v }) ∧
      (condHolds s cc = false → exec (Instr.retCond cc) s = .next s)) ∧
    (encode .reti = [0xD9#8] ∧ PopsTo .reti s fun v t => { t with pc := v, ime := true })

/-! ## System instructions -/

/-- NOP, HALT, STOP, DI and EI (R176, R177, R178, R179, R180). -/
def Obligations.SystemInstructions : Prop :=
  ∀ (s : State) (n8 : Byte),
    (encode .nop = [0x00#8] ∧ exec .nop s = .next s) ∧
    (encode .halt = [0x76#8] ∧ exec .halt s = .next { s with mode := .halted }) ∧
    (encode (.stop n8) = [0x10#8, n8] ∧ exec (.stop n8) s = .next { s with mode := .stopped }) ∧
    (encode .di = [0xF3#8] ∧ exec .di s = .next { s with ime := false }) ∧
    (encode .ei = [0xFB#8] ∧ exec .ei s = .next { s with ime := true })

/-! ## The launch state and the whole machine -/

/-- The launch state, for every value of the launch parameters (R196, R197, R198, R199, R200). -/
def Obligations.LaunchState : Prop :=
  ∀ p : Launch,
    State.launch p =
      { a := 0x01#8, f := p.initF &&& 0xF0#8, b := p.initB, c := p.initC, d := p.initD, e := p.initE,
        h := p.initH, l := p.initL, sp := p.initSp, pc := 0x0100#16, ime := false, mode := .running,
        mem := p.initMem, ie := p.initIe, cfg := p.cfg }

/-- The invariant holds in every launch state whose memory is given in canonical form, and at reset (the values of
`State.reset` that the spec leaves open are the model's: log entries 1 to 4). -/
def Obligations.InvariantHoldsAtLaunch : Prop :=
  (∀ p : Launch, p.wf → (State.launch p).Inv) ∧ State.reset.Inv

/-- Every step keeps the invariant: bits 3..0 of F stay 0 (R25), and memory stays in canonical form. -/
def Obligations.InvariantKeptByStep : Prop :=
  ∀ s t : State, s.Inv → step s = .next t → t.Inv

/-- No step changes the configuration: the ROM image, its length, `CB_ENABLED` and `AND_SETS_H` (R32). -/
def Obligations.StepKeepsConfiguration : Prop :=
  ∀ s t : State, step s = .next t → t.cfg = s.cfg

/-- Only DI, EI and RETI write IME: DI clears it, EI and RETI set it (R27). -/
def Obligations.OnlyDiEiRetiWriteIme : Prop :=
  ∀ (i : Instr) (s t : State), exec i s = .next t →
    t.ime = if i = .di then false else if i = .ei ∨ i = .reti then true else s.ime

/-- Only HALT and STOP write the mode (R28). -/
def Obligations.OnlyHaltAndStopWriteMode : Prop :=
  ∀ (i : Instr) (s t : State), exec i s = .next t →
    (i = .halt → t.mode = .halted) ∧
    ((∃ n8, i = .stop n8) → t.mode = .stopped) ∧
    (i ≠ .halt → (∀ n8, i ≠ .stop n8) → t.mode = s.mode)

/-- Only the instructions that R21 lists write SP. -/
def Obligations.OnlyListedInstructionsWriteSp : Prop :=
  ∀ (i : Instr) (s t : State), exec i s = .next t → t.sp ≠ s.sp →
    (∃ n16, i = .ld_sp_n16 n16) ∨ i = .ld_sp_hl ∨ (∃ e8, i = .add_sp_e8 e8) ∨ i = .inc_sp ∨ i = .dec_sp ∨
    (∃ q, i = Instr.push q) ∨ (∃ q, i = Instr.pop q) ∨ (∃ a16, i = .call_a16 a16) ∨
    (∃ cc a16, i = Instr.callCond cc a16) ∨ i = .ret ∨ (∃ cc, i = Instr.retCond cc) ∨ i = .reti ∨
    (∃ y, i = Instr.rst y)

/-- Only what the rules store to is written: an instruction that is none of the storing forms leaves every byte of
memory, IE among them, as it was. -/
def Obligations.OnlyStoringInstructionsWriteMemory : Prop :=
  ∀ (i : Instr) (s t : State), exec i s = .next t → (∃ x, memRead t x ≠ memRead s x) →
    (∃ r, i = Instr.ldAtHLReg r) ∨ (∃ n8, i = .ld_atHL_n8 n8) ∨ i = .ld_atHLInc_a ∨ i = .ld_atHLDec_a ∨
    i = .ld_atBC_a ∨ i = .ld_atDE_a ∨ (∃ a16, i = .ld_atA16_a a16) ∨ (∃ a8, i = .ldh_atA8_a a8) ∨
    i = .ld_atC_a ∨ (∃ a16, i = .ld_atA16_sp a16) ∨ (∃ q, i = Instr.push q) ∨
    i = .inc_atHL ∨ i = .dec_atHL ∨ (∃ op, i = Instr.rot op .atHL) ∨ (∃ b, i = Instr.res b .atHL) ∨
    (∃ b, i = Instr.set b .atHL) ∨ (∃ a16, i = .call_a16 a16) ∨ (∃ cc a16, i = Instr.callCond cc a16) ∨
    (∃ y, i = Instr.rst y) ∨ i = .prefix_cb

/-- No rule reads IME (R27, R188): two states that differ in IME alone step alike, to states that differ in IME alone,
or to the same fault. -/
def Obligations.ImeIsNeverRead : Prop :=
  ∀ (s : State) (b : Bool),
    match step s, step { s with ime := b } with
    | .next t, .next t' => t' = { t with ime := t'.ime }
    | .fault e, .fault e' => e' = e
    | _, _ => False

/-- A step that faults returns the state of before the step (R90), and a run ends there, faulted (R93); a run that
meets a terminal state ends in it. -/
def Obligations.FaultsLeaveTheStateOfBefore : Prop :=
  (∀ (s : State) (e : Fault), step s = .fault e → stateAfter s = s) ∧
  (∀ (s : State) (e : Fault) (k : Nat), step s = .fault e → runFor (k + 1) s = (s, .faulted e)) ∧
  (∀ (s : State) (k : Nat), s.mode ≠ .running → runFor k s = (s, .terminal))

/-- The header checksum is 0 minus the 25 bytes of 0x134 to 0x14C minus 25, compared with the byte at 0x14D; a buffer
without that byte is malformed (R59). -/
def Obligations.HeaderChecksum : Prop :=
  ∀ cfg : Config,
    (cfg.romLen < 0x14E → verifyHeaderChecksum cfg = .error .malformedCartridge) ∧
    (0x14E ≤ cfg.romLen → verifyHeaderChecksum cfg = .ok (decide
      (BitVec.ofInt 8 (-(((List.range 25).map fun i => ((Memory.read cfg.rom (0x134 + i)).toNat : Int)).sum) - 25)
        = Memory.read cfg.rom 0x14D)))

/-- Changing any single byte of the checksummed range makes a valid header invalid (property 6 of
95_test_vectors.md, R59). -/
def Obligations.HeaderChecksumDetectsOneByte : Prop :=
  ∀ (cfg : Config) (i : Nat) (v : Byte), verifyHeaderChecksum cfg = .ok true → 0x134 ≤ i → i ≤ 0x14C →
    v ≠ Memory.read cfg.rom i →
    verifyHeaderChecksum { cfg with rom := Memory.write cfg.rom i v } = .ok false
end

