-- ==== Sys2Proof/Laws/Cartridge.lean ====
section
/-! SUPPORT. What the header projections give: a field's bytes are those of the image, a buffer that is too short is
malformed, and the title decodes every text that was encoded as UTF-8. -/

namespace Sys2Proof.Machine

/-! ## Reading the bytes of a field -/

theorem headerByte_ok {cfg : Config} {i : Nat} (h : i < cfg.romLen) :
    headerByte cfg i = .ok (Memory.read cfg.rom i) := by
  simp [headerByte, romByte?, h]

theorem headerByte_short {cfg : Config} {i : Nat} (h : cfg.romLen ≤ i) :
    headerByte cfg i = .error .malformedCartridge := by
  simp [headerByte, romByte?, Nat.not_lt.mpr h]

theorem headerBytes_ok {cfg : Config} (count first : Nat) (h : first + count ≤ cfg.romLen) :
    headerBytes cfg first count = .ok ((List.range' first count).map (Memory.read cfg.rom)) := by
  induction count generalizing first with
  | zero => rfl
  | succ k ih =>
    have h0 : first < cfg.romLen := by omega
    simp [headerBytes, headerByte_ok h0, ih (first + 1) (by omega), List.range'_succ, bind, Except.bind,
      pure, Except.pure]

theorem headerBytes_short {cfg : Config} (count first : Nat) (h0 : 0 < count) (h : cfg.romLen < first + count) :
    headerBytes cfg first count = .error .malformedCartridge := by
  induction count generalizing first with
  | zero => omega
  | succ k ih =>
    by_cases hf : first < cfg.romLen
    · have hk : 0 < k := by omega
      simp [headerBytes, headerByte_ok hf, ih (first + 1) hk (by omega), bind, Except.bind]
    · simp [headerBytes, headerByte_short (Nat.not_lt.mp hf), bind, Except.bind]

/-! ## The title -/

/-- The bytes of a character in UTF-8. -/
def utf8Bytes (c : Char) : List Byte := (String.utf8EncodeChar c).map UInt8.toBitVec

theorem utf8Tail_zero (x : Nat) (bytes : List Byte) : utf8Tail 0 x bytes = some x := by
  cases bytes <;> rfl

/-- A byte that continues a sequence adds its six bits. -/
theorem utf8Tail_succ (k x d : Nat) (rest : List Byte) (h : d < 64) :
    utf8Tail (k + 1) x (BitVec.ofNat 8 (d + 0x80) :: rest) = utf8Tail k (x * 64 + d) rest := by
  have h1 : (BitVec.ofNat 8 (d + 0x80)).toNat = d + 0x80 := by
    rw [BitVec.toNat_ofNat]
    omega
  have h2 : (d + 0x80) / 64 = 2 := by omega
  have h3 : (d + 0x80) % 64 = d := by omega
  simp only [utf8Tail, h1, h2, h3, if_true]

/-- The first byte of each length of sequence. -/
theorem utf8Lead_ofNat (d : Nat) :
    (d < 0x80 → utf8Lead (BitVec.ofNat 8 d) = some (0, d, 0)) ∧
    (d < 0x20 → utf8Lead (BitVec.ofNat 8 (d + 0xC0)) = some (1, d, 0x80)) ∧
    (d < 0x10 → utf8Lead (BitVec.ofNat 8 (d + 0xE0)) = some (2, d, 0x800)) ∧
    (d < 0x08 → utf8Lead (BitVec.ofNat 8 (d + 0xF0)) = some (3, d, 0x10000)) := by
  have key : ∀ k, d + k < 256 → (BitVec.ofNat 8 (d + k)).toNat = d + k := fun k hk => by
    rw [BitVec.toNat_ofNat]
    omega
  refine ⟨fun h => ?_, fun h => ?_, fun h => ?_, fun h => ?_⟩
  · rw [utf8Lead, show (BitVec.ofNat 8 d).toNat = d from key 0 (by omega), if_pos h]
  · rw [utf8Lead, key _ (by omega), if_neg (by omega), if_neg (by omega), if_pos (by omega), Nat.add_sub_cancel]
  · rw [utf8Lead, key _ (by omega), if_neg (by omega), if_neg (by omega), if_neg (by omega), if_pos (by omega),
      Nat.add_sub_cancel]
  · rw [utf8Lead, key _ (by omega), if_neg (by omega), if_neg (by omega), if_neg (by omega), if_neg (by omega),
      if_pos (by omega), Nat.add_sub_cancel]

/-- A sequence read as a number that is a character's code point, and not too small for its length. -/
theorem utf8Char?_eq {v : Byte} {rest : List Byte} {n x least : Nat} {c : Char}
    (hl : utf8Lead v = some (n, x, least)) (ht : utf8Tail n x rest = some c.toNat) (hc : least ≤ c.toNat) :
    utf8Char? v rest = some (c, n) := by
  have hv : c.toNat.isValidChar := c.valid
  simp [utf8Char?, hl, ht, hc, hv]

/-- The character at the head of its own encoding. -/
theorem utf8Char?_utf8Bytes (c : Char) :
    ∃ v tail, utf8Bytes c = v :: tail ∧ ∀ rest, utf8Char? v (tail ++ rest) = some (c, tail.length) := by
  have hmax : c.toNat < 0x110000 := by
    have h : c.toNat < 0xD800 ∨ 0xDFFF < c.toNat ∧ c.toNat < 0x110000 := c.valid
    omega
  have e : c.val.toNat = c.toNat := rfl
  unfold utf8Bytes String.utf8EncodeChar
  simp only [e]
  split
  · refine ⟨_, [], rfl, fun rest => utf8Char?_eq ((utf8Lead_ofNat _).1 ?_) ?_ ?_⟩
    · omega
    · exact utf8Tail_zero _ _
    · omega
  · split
    · refine ⟨_, [_], rfl, fun rest => utf8Char?_eq ((utf8Lead_ofNat _).2.1 ?_) ?_ ?_⟩
      · omega
      · refine (utf8Tail_succ _ _ _ _ (by omega)).trans ((utf8Tail_zero _ _).trans (congrArg some ?_))
        omega
      · omega
    · split
      · refine ⟨_, [_, _], rfl, fun rest => utf8Char?_eq ((utf8Lead_ofNat _).2.2.1 ?_) ?_ ?_⟩
        · omega
        · refine (utf8Tail_succ _ _ _ _ (by omega)).trans ((utf8Tail_succ _ _ _ _ (by omega)).trans
            ((utf8Tail_zero _ _).trans (congrArg some ?_)))
          omega
        · omega
      · refine ⟨_, [_, _, _], rfl, fun rest => utf8Char?_eq ((utf8Lead_ofNat _).2.2.2 ?_) ?_ ?_⟩
        · omega
        · refine (utf8Tail_succ _ _ _ _ (by omega)).trans ((utf8Tail_succ _ _ _ _ (by omega)).trans
            ((utf8Tail_succ _ _ _ _ (by omega)).trans ((utf8Tail_zero _ _).trans (congrArg some ?_))))
          omega
        · omega

@[simp] theorem decodeText_skip (skipped rest : List Byte) :
    decodeText skipped.length (skipped ++ rest) = decodeText 0 rest := by
  induction skipped with
  | nil => rfl
  | cons v more ih => exact ih

/-- A text decodes to its own characters, each of them known. -/
theorem decodeText_utf8Bytes (cs : List Char) : decodeText 0 (cs.flatMap utf8Bytes) = cs.map .known := by
  induction cs with
  | nil => rfl
  | cons c cs ih =>
    obtain ⟨v, tail, hv, hc⟩ := utf8Char?_utf8Bytes c
    rw [List.flatMap_cons, hv, List.cons_append, decodeText, hc]
    simp [ih]

/-- A byte at which no sequence begins is kept as it is, and the decode goes on after it. -/
theorem decodeText_unknown {v : Byte} {rest : List Byte} (h : utf8Char? v rest = none) :
    decodeText 0 (v :: rest) = .unknown v.toNat :: decodeText 0 rest := by
  rw [decodeText, h]

theorem headerTitle_ok {cfg : Config} (h : 0x143 ≤ cfg.romLen) :
    headerTitle cfg = .ok (decodeText 0 ((List.range' 0x134 15).map (Memory.read cfg.rom))) := by
  simp only [headerTitle, headerBytes_ok 0x0F 0x134 h]
  rfl

theorem headerTitle_short {cfg : Config} (h : cfg.romLen < 0x143) :
    headerTitle cfg = .error .malformedCartridge := by
  simp only [headerTitle, headerBytes_short 0x0F 0x134 (by decide) h]
  rfl

end Sys2Proof.Machine
end

