-- ==== Sys2Proof/Laws/Family.lean ====
section
/-! SUPPORT. The families of R75 and R77 (`Instr.ldRegReg` and the others of Decode.lean): what `exec` does with
each, said once over the shared operation, and that every instruction is in a family or is one of its own. A
proof about every instruction is a case analysis of `inFamily i`. -/

namespace Sys2Proof.Machine

/-! ## The meaning of a family -/

theorem exec_ldRegReg (dst r : Reg8) (s : State) :
    exec (Instr.ldRegReg dst r) s = loadRegReg dst r s := by
  cases dst <;> cases r <;> rfl

theorem exec_ldRegImm (dst : Reg8) (n8 : Byte) (s : State) :
    exec (Instr.ldRegImm dst n8) s = loadRegImm dst n8 s := by
  cases dst <;> rfl

theorem exec_ldRegAtHL (dst : Reg8) (s : State) :
    exec (Instr.ldRegAtHL dst) s = loadReg dst (s.pair .hl) s := by
  cases dst <;> rfl

theorem exec_ldAtHLReg (r : Reg8) (s : State) :
    exec (Instr.ldAtHLReg r) s = storeByte (s.pair .hl) (s.reg r) s := by
  cases r <;> rfl

theorem exec_ldReg16Imm (p : Reg16) (n16 : Word) (s : State) :
    exec (Instr.ldReg16Imm p n16) s = loadReg16 p n16 s := by
  cases p <;> rfl

theorem exec_incReg16 (p : Reg16) (s : State) :
    exec (Instr.incReg16 p) s = incReg16 p s := by
  cases p <;> rfl

theorem exec_decReg16 (p : Reg16) (s : State) :
    exec (Instr.decReg16 p) s = decReg16 p s := by
  cases p <;> rfl

theorem exec_addHL (p : Reg16) (s : State) :
    exec (Instr.addHL p) s = addToHL p s := by
  cases p <;> rfl

theorem exec_push (q : Pair) (s : State) :
    exec (Instr.push q) s = pushPair q s := by
  cases q <;> rfl

theorem exec_pop (q : Pair) (s : State) :
    exec (Instr.pop q) s = popPair q s := by
  cases q <;> rfl

theorem exec_inc8 (o : Opnd8) (s : State) :
    exec (Instr.inc8 o) s = incOpnd o s := by
  rcases o with ⟨⟨⟩⟩ | ⟨⟩ <;> rfl

theorem exec_dec8 (o : Opnd8) (s : State) :
    exec (Instr.dec8 o) s = decOpnd o s := by
  rcases o with ⟨⟨⟩⟩ | ⟨⟩ <;> rfl

theorem exec_alu (op : AluOp) (o : Opnd8) (s : State) :
    exec (Instr.alu op o) s = aluOpnd op o s := by
  cases op <;> rcases o with ⟨⟨⟩⟩ | ⟨⟩ <;> rfl

theorem exec_aluImm (op : AluOp) (n8 : Byte) (s : State) :
    exec (Instr.aluImm op n8) s = .next (aluA op n8 s) := by
  cases op <;> rfl

theorem exec_jpCond (cc : Cond) (a16 : Word) (s : State) :
    exec (Instr.jpCond cc a16) s = jumpIf cc a16 s := by
  cases cc <;> rfl

theorem exec_jrCond (cc : Cond) (e8 : Byte) (s : State) :
    exec (Instr.jrCond cc e8) s = jumpIf cc (relativeTarget s.pc e8) s := by
  cases cc <;> rfl

theorem exec_callCond (cc : Cond) (a16 : Word) (s : State) :
    exec (Instr.callCond cc a16) s = callIf cc a16 s := by
  cases cc <;> rfl

theorem exec_retCond (cc : Cond) (s : State) :
    exec (Instr.retCond cc) s = returnIf cc s := by
  cases cc <;> rfl

theorem exec_rst (y : Fin 8) (s : State) :
    exec (Instr.rst y) s = callTo (restartTarget y) s := by
  fin_cases y <;> rfl

theorem exec_rot (op : RotOp) (o : Opnd8) (s : State) :
    exec (Instr.rot op o) s = cbOnly s (rotOpnd op o s) := by
  cases op <;> rcases o with ⟨⟨⟩⟩ | ⟨⟩ <;> rfl

theorem exec_bit (b : Fin 8) (o : Opnd8) (s : State) :
    exec (Instr.bit b o) s = cbOnly s (bitOpnd b o s) := by
  rcases o with ⟨⟨⟩⟩ | ⟨⟩ <;> fin_cases b <;> rfl

theorem exec_res (b : Fin 8) (o : Opnd8) (s : State) :
    exec (Instr.res b o) s = cbOnly s (resOpnd b o s) := by
  rcases o with ⟨⟨⟩⟩ | ⟨⟩ <;> fin_cases b <;> rfl

theorem exec_set (b : Fin 8) (o : Opnd8) (s : State) :
    exec (Instr.set b o) s = cbOnly s (setOpnd b o s) := by
  rcases o with ⟨⟨⟩⟩ | ⟨⟩ <;> fin_cases b <;> rfl

/-- An undefined opcode faults with its own byte, at the address before `pc_next` (R182). -/
theorem exec_undefinedOpcode {i : Instr} (h : i.kind = .undefinedOpcode) (s : State) :
    exec i s = raise (.unimplementedOpcode ((encode i).headD 0#8) (s.pc - 1#16)) := by
  cases i <;> first | rfl | cases h

/-! ## Every instruction -/

/-- The families, and the instructions that are one of their own. -/
inductive InFamily : Instr → Prop where
  | ldRegReg (dst r : Reg8) : InFamily (Instr.ldRegReg dst r)
  | ldRegImm (dst : Reg8) (n8 : Byte) : InFamily (Instr.ldRegImm dst n8)
  | ldRegAtHL (dst : Reg8) : InFamily (Instr.ldRegAtHL dst)
  | ldAtHLReg (r : Reg8) : InFamily (Instr.ldAtHLReg r)
  | ldReg16Imm (p : Reg16) (n16 : Word) : InFamily (Instr.ldReg16Imm p n16)
  | incReg16 (p : Reg16) : InFamily (Instr.incReg16 p)
  | decReg16 (p : Reg16) : InFamily (Instr.decReg16 p)
  | addHL (p : Reg16) : InFamily (Instr.addHL p)
  | push (q : Pair) : InFamily (Instr.push q)
  | pop (q : Pair) : InFamily (Instr.pop q)
  | inc8 (o : Opnd8) : InFamily (Instr.inc8 o)
  | dec8 (o : Opnd8) : InFamily (Instr.dec8 o)
  | alu (op : AluOp) (o : Opnd8) : InFamily (Instr.alu op o)
  | aluImm (op : AluOp) (n8 : Byte) : InFamily (Instr.aluImm op n8)
  | jpCond (cc : Cond) (a16 : Word) : InFamily (Instr.jpCond cc a16)
  | jrCond (cc : Cond) (e8 : Byte) : InFamily (Instr.jrCond cc e8)
  | callCond (cc : Cond) (a16 : Word) : InFamily (Instr.callCond cc a16)
  | retCond (cc : Cond) : InFamily (Instr.retCond cc)
  | rst (y : Fin 8) : InFamily (Instr.rst y)
  | rot (op : RotOp) (o : Opnd8) : InFamily (Instr.rot op o)
  | bit (b : Fin 8) (o : Opnd8) : InFamily (Instr.bit b o)
  | res (b : Fin 8) (o : Opnd8) : InFamily (Instr.res b o)
  | set (b : Fin 8) (o : Opnd8) : InFamily (Instr.set b o)
  | undefinedOpcode (i : Instr) (h : i.kind = .undefinedOpcode) : InFamily i
  | nop : InFamily .nop
  | ld_atBC_a : InFamily .ld_atBC_a
  | rlca : InFamily .rlca
  | ld_atA16_sp (a16 : Word) : InFamily (.ld_atA16_sp a16)
  | ld_a_atBC : InFamily .ld_a_atBC
  | rrca : InFamily .rrca
  | stop (n8 : Byte) : InFamily (.stop n8)
  | ld_atDE_a : InFamily .ld_atDE_a
  | rla : InFamily .rla
  | jr_e8 (e8 : Byte) : InFamily (.jr_e8 e8)
  | ld_a_atDE : InFamily .ld_a_atDE
  | rra : InFamily .rra
  | ld_atHLInc_a : InFamily .ld_atHLInc_a
  | daa : InFamily .daa
  | ld_a_atHLInc : InFamily .ld_a_atHLInc
  | cpl : InFamily .cpl
  | ld_atHLDec_a : InFamily .ld_atHLDec_a
  | ld_atHL_n8 (n8 : Byte) : InFamily (.ld_atHL_n8 n8)
  | scf : InFamily .scf
  | ld_a_atHLDec : InFamily .ld_a_atHLDec
  | ccf : InFamily .ccf
  | halt : InFamily .halt
  | jp_a16 (a16 : Word) : InFamily (.jp_a16 a16)
  | ret : InFamily .ret
  | call_a16 (a16 : Word) : InFamily (.call_a16 a16)
  | reti : InFamily .reti
  | ldh_atA8_a (a8 : Byte) : InFamily (.ldh_atA8_a a8)
  | ld_atC_a : InFamily .ld_atC_a
  | add_sp_e8 (e8 : Byte) : InFamily (.add_sp_e8 e8)
  | jp_atHL : InFamily .jp_atHL
  | ld_atA16_a (a16 : Word) : InFamily (.ld_atA16_a a16)
  | ldh_a_atA8 (a8 : Byte) : InFamily (.ldh_a_atA8 a8)
  | ld_a_atC : InFamily .ld_a_atC
  | di : InFamily .di
  | ld_hl_spE8 (e8 : Byte) : InFamily (.ld_hl_spE8 e8)
  | ld_sp_hl : InFamily .ld_sp_hl
  | ld_a_atA16 (a16 : Word) : InFamily (.ld_a_atA16 a16)
  | ei : InFamily .ei
  | prefix_cb : InFamily .prefix_cb

/-- Every instruction is in a family or is one of its own. -/
theorem inFamily (i : Instr) : InFamily i :=
  match i with
  | .nop => .nop
  | .ld_bc_n16 n16 => .ldReg16Imm .bc n16
  | .ld_atBC_a => .ld_atBC_a
  | .inc_bc => .incReg16 .bc
  | .inc_b => .inc8 (.reg .b)
  | .dec_b => .dec8 (.reg .b)
  | .ld_b_n8 n8 => .ldRegImm .b n8
  | .rlca => .rlca
  | .ld_atA16_sp a16 => .ld_atA16_sp a16
  | .add_hl_bc => .addHL .bc
  | .ld_a_atBC => .ld_a_atBC
  | .dec_bc => .decReg16 .bc
  | .inc_c => .inc8 (.reg .c)
  | .dec_c => .dec8 (.reg .c)
  | .ld_c_n8 n8 => .ldRegImm .c n8
  | .rrca => .rrca
  | .stop n8 => .stop n8
  | .ld_de_n16 n16 => .ldReg16Imm .de n16
  | .ld_atDE_a => .ld_atDE_a
  | .inc_de => .incReg16 .de
  | .inc_d => .inc8 (.reg .d)
  | .dec_d => .dec8 (.reg .d)
  | .ld_d_n8 n8 => .ldRegImm .d n8
  | .rla => .rla
  | .jr_e8 e8 => .jr_e8 e8
  | .add_hl_de => .addHL .de
  | .ld_a_atDE => .ld_a_atDE
  | .dec_de => .decReg16 .de
  | .inc_e => .inc8 (.reg .e)
  | .dec_e => .dec8 (.reg .e)
  | .ld_e_n8 n8 => .ldRegImm .e n8
  | .rra => .rra
  | .jr_nz_e8 e8 => .jrCond .nz e8
  | .ld_hl_n16 n16 => .ldReg16Imm .hl n16
  | .ld_atHLInc_a => .ld_atHLInc_a
  | .inc_hl => .incReg16 .hl
  | .inc_h => .inc8 (.reg .h)
  | .dec_h => .dec8 (.reg .h)
  | .ld_h_n8 n8 => .ldRegImm .h n8
  | .daa => .daa
  | .jr_z_e8 e8 => .jrCond .z e8
  | .add_hl_hl => .addHL .hl
  | .ld_a_atHLInc => .ld_a_atHLInc
  | .dec_hl => .decReg16 .hl
  | .inc_l => .inc8 (.reg .l)
  | .dec_l => .dec8 (.reg .l)
  | .ld_l_n8 n8 => .ldRegImm .l n8
  | .cpl => .cpl
  | .jr_nc_e8 e8 => .jrCond .nc e8
  | .ld_sp_n16 n16 => .ldReg16Imm .sp n16
  | .ld_atHLDec_a => .ld_atHLDec_a
  | .inc_sp => .incReg16 .sp
  | .inc_atHL => .inc8 .atHL
  | .dec_atHL => .dec8 .atHL
  | .ld_atHL_n8 n8 => .ld_atHL_n8 n8
  | .scf => .scf
  | .jr_c_e8 e8 => .jrCond .c e8
  | .add_hl_sp => .addHL .sp
  | .ld_a_atHLDec => .ld_a_atHLDec
  | .dec_sp => .decReg16 .sp
  | .inc_a => .inc8 (.reg .a)
  | .dec_a => .dec8 (.reg .a)
  | .ld_a_n8 n8 => .ldRegImm .a n8
  | .ccf => .ccf
  | .ld_b_b => .ldRegReg .b .b
  | .ld_b_c => .ldRegReg .b .c
  | .ld_b_d => .ldRegReg .b .d
  | .ld_b_e => .ldRegReg .b .e
  | .ld_b_h => .ldRegReg .b .h
  | .ld_b_l => .ldRegReg .b .l
  | .ld_b_atHL => .ldRegAtHL .b
  | .ld_b_a => .ldRegReg .b .a
  | .ld_c_b => .ldRegReg .c .b
  | .ld_c_c => .ldRegReg .c .c
  | .ld_c_d => .ldRegReg .c .d
  | .ld_c_e => .ldRegReg .c .e
  | .ld_c_h => .ldRegReg .c .h
  | .ld_c_l => .ldRegReg .c .l
  | .ld_c_atHL => .ldRegAtHL .c
  | .ld_c_a => .ldRegReg .c .a
  | .ld_d_b => .ldRegReg .d .b
  | .ld_d_c => .ldRegReg .d .c
  | .ld_d_d => .ldRegReg .d .d
  | .ld_d_e => .ldRegReg .d .e
  | .ld_d_h => .ldRegReg .d .h
  | .ld_d_l => .ldRegReg .d .l
  | .ld_d_atHL => .ldRegAtHL .d
  | .ld_d_a => .ldRegReg .d .a
  | .ld_e_b => .ldRegReg .e .b
  | .ld_e_c => .ldRegReg .e .c
  | .ld_e_d => .ldRegReg .e .d
  | .ld_e_e => .ldRegReg .e .e
  | .ld_e_h => .ldRegReg .e .h
  | .ld_e_l => .ldRegReg .e .l
  | .ld_e_atHL => .ldRegAtHL .e
  | .ld_e_a => .ldRegReg .e .a
  | .ld_h_b => .ldRegReg .h .b
  | .ld_h_c => .ldRegReg .h .c
  | .ld_h_d => .ldRegReg .h .d
  | .ld_h_e => .ldRegReg .h .e
  | .ld_h_h => .ldRegReg .h .h
  | .ld_h_l => .ldRegReg .h .l
  | .ld_h_atHL => .ldRegAtHL .h
  | .ld_h_a => .ldRegReg .h .a
  | .ld_l_b => .ldRegReg .l .b
  | .ld_l_c => .ldRegReg .l .c
  | .ld_l_d => .ldRegReg .l .d
  | .ld_l_e => .ldRegReg .l .e
  | .ld_l_h => .ldRegReg .l .h
  | .ld_l_l => .ldRegReg .l .l
  | .ld_l_atHL => .ldRegAtHL .l
  | .ld_l_a => .ldRegReg .l .a
  | .ld_atHL_b => .ldAtHLReg .b
  | .ld_atHL_c => .ldAtHLReg .c
  | .ld_atHL_d => .ldAtHLReg .d
  | .ld_atHL_e => .ldAtHLReg .e
  | .ld_atHL_h => .ldAtHLReg .h
  | .ld_atHL_l => .ldAtHLReg .l
  | .halt => .halt
  | .ld_atHL_a => .ldAtHLReg .a
  | .ld_a_b => .ldRegReg .a .b
  | .ld_a_c => .ldRegReg .a .c
  | .ld_a_d => .ldRegReg .a .d
  | .ld_a_e => .ldRegReg .a .e
  | .ld_a_h => .ldRegReg .a .h
  | .ld_a_l => .ldRegReg .a .l
  | .ld_a_atHL => .ldRegAtHL .a
  | .ld_a_a => .ldRegReg .a .a
  | .add_a_b => .alu .add (.reg .b)
  | .add_a_c => .alu .add (.reg .c)
  | .add_a_d => .alu .add (.reg .d)
  | .add_a_e => .alu .add (.reg .e)
  | .add_a_h => .alu .add (.reg .h)
  | .add_a_l => .alu .add (.reg .l)
  | .add_a_atHL => .alu .add .atHL
  | .add_a_a => .alu .add (.reg .a)
  | .adc_a_b => .alu .adc (.reg .b)
  | .adc_a_c => .alu .adc (.reg .c)
  | .adc_a_d => .alu .adc (.reg .d)
  | .adc_a_e => .alu .adc (.reg .e)
  | .adc_a_h => .alu .adc (.reg .h)
  | .adc_a_l => .alu .adc (.reg .l)
  | .adc_a_atHL => .alu .adc .atHL
  | .adc_a_a => .alu .adc (.reg .a)
  | .sub_b => .alu .sub (.reg .b)
  | .sub_c => .alu .sub (.reg .c)
  | .sub_d => .alu .sub (.reg .d)
  | .sub_e => .alu .sub (.reg .e)
  | .sub_h => .alu .sub (.reg .h)
  | .sub_l => .alu .sub (.reg .l)
  | .sub_atHL => .alu .sub .atHL
  | .sub_a => .alu .sub (.reg .a)
  | .sbc_a_b => .alu .sbc (.reg .b)
  | .sbc_a_c => .alu .sbc (.reg .c)
  | .sbc_a_d => .alu .sbc (.reg .d)
  | .sbc_a_e => .alu .sbc (.reg .e)
  | .sbc_a_h => .alu .sbc (.reg .h)
  | .sbc_a_l => .alu .sbc (.reg .l)
  | .sbc_a_atHL => .alu .sbc .atHL
  | .sbc_a_a => .alu .sbc (.reg .a)
  | .and_b => .alu .and (.reg .b)
  | .and_c => .alu .and (.reg .c)
  | .and_d => .alu .and (.reg .d)
  | .and_e => .alu .and (.reg .e)
  | .and_h => .alu .and (.reg .h)
  | .and_l => .alu .and (.reg .l)
  | .and_atHL => .alu .and .atHL
  | .and_a => .alu .and (.reg .a)
  | .xor_b => .alu .xor (.reg .b)
  | .xor_c => .alu .xor (.reg .c)
  | .xor_d => .alu .xor (.reg .d)
  | .xor_e => .alu .xor (.reg .e)
  | .xor_h => .alu .xor (.reg .h)
  | .xor_l => .alu .xor (.reg .l)
  | .xor_atHL => .alu .xor .atHL
  | .xor_a => .alu .xor (.reg .a)
  | .or_b => .alu .or (.reg .b)
  | .or_c => .alu .or (.reg .c)
  | .or_d => .alu .or (.reg .d)
  | .or_e => .alu .or (.reg .e)
  | .or_h => .alu .or (.reg .h)
  | .or_l => .alu .or (.reg .l)
  | .or_atHL => .alu .or .atHL
  | .or_a => .alu .or (.reg .a)
  | .cp_b => .alu .cp (.reg .b)
  | .cp_c => .alu .cp (.reg .c)
  | .cp_d => .alu .cp (.reg .d)
  | .cp_e => .alu .cp (.reg .e)
  | .cp_h => .alu .cp (.reg .h)
  | .cp_l => .alu .cp (.reg .l)
  | .cp_atHL => .alu .cp .atHL
  | .cp_a => .alu .cp (.reg .a)
  | .ret_nz => .retCond .nz
  | .pop_bc => .pop .bc
  | .jp_nz_a16 a16 => .jpCond .nz a16
  | .jp_a16 a16 => .jp_a16 a16
  | .call_nz_a16 a16 => .callCond .nz a16
  | .push_bc => .push .bc
  | .add_a_n8 n8 => .aluImm .add n8
  | .rst_00h => .rst 0
  | .ret_z => .retCond .z
  | .ret => .ret
  | .jp_z_a16 a16 => .jpCond .z a16
  | .call_z_a16 a16 => .callCond .z a16
  | .call_a16 a16 => .call_a16 a16
  | .adc_a_n8 n8 => .aluImm .adc n8
  | .rst_08h => .rst 1
  | .ret_nc => .retCond .nc
  | .pop_de => .pop .de
  | .jp_nc_a16 a16 => .jpCond .nc a16
  | .call_nc_a16 a16 => .callCond .nc a16
  | .push_de => .push .de
  | .sub_n8 n8 => .aluImm .sub n8
  | .rst_10h => .rst 2
  | .ret_c => .retCond .c
  | .reti => .reti
  | .jp_c_a16 a16 => .jpCond .c a16
  | .call_c_a16 a16 => .callCond .c a16
  | .sbc_a_n8 n8 => .aluImm .sbc n8
  | .rst_18h => .rst 3
  | .ldh_atA8_a a8 => .ldh_atA8_a a8
  | .pop_hl => .pop .hl
  | .ld_atC_a => .ld_atC_a
  | .push_hl => .push .hl
  | .and_n8 n8 => .aluImm .and n8
  | .rst_20h => .rst 4
  | .add_sp_e8 e8 => .add_sp_e8 e8
  | .jp_atHL => .jp_atHL
  | .ld_atA16_a a16 => .ld_atA16_a a16
  | .xor_n8 n8 => .aluImm .xor n8
  | .rst_28h => .rst 5
  | .ldh_a_atA8 a8 => .ldh_a_atA8 a8
  | .pop_af => .pop .af
  | .ld_a_atC => .ld_a_atC
  | .di => .di
  | .push_af => .push .af
  | .or_n8 n8 => .aluImm .or n8
  | .rst_30h => .rst 6
  | .ld_hl_spE8 e8 => .ld_hl_spE8 e8
  | .ld_sp_hl => .ld_sp_hl
  | .ld_a_atA16 a16 => .ld_a_atA16 a16
  | .ei => .ei
  | .cp_n8 n8 => .aluImm .cp n8
  | .rst_38h => .rst 7
  | .prefix_cb => .prefix_cb
  | .undefined_d3 => .undefinedOpcode _ rfl
  | .undefined_db => .undefinedOpcode _ rfl
  | .undefined_dd => .undefinedOpcode _ rfl
  | .undefined_e3 => .undefinedOpcode _ rfl
  | .undefined_e4 => .undefinedOpcode _ rfl
  | .undefined_eb => .undefinedOpcode _ rfl
  | .undefined_ec => .undefinedOpcode _ rfl
  | .undefined_ed => .undefinedOpcode _ rfl
  | .undefined_f4 => .undefinedOpcode _ rfl
  | .undefined_fc => .undefinedOpcode _ rfl
  | .undefined_fd => .undefinedOpcode _ rfl
  | .rlc_b => .rot .rlc (.reg .b)
  | .rlc_c => .rot .rlc (.reg .c)
  | .rlc_d => .rot .rlc (.reg .d)
  | .rlc_e => .rot .rlc (.reg .e)
  | .rlc_h => .rot .rlc (.reg .h)
  | .rlc_l => .rot .rlc (.reg .l)
  | .rlc_atHL => .rot .rlc .atHL
  | .rlc_a => .rot .rlc (.reg .a)
  | .rrc_b => .rot .rrc (.reg .b)
  | .rrc_c => .rot .rrc (.reg .c)
  | .rrc_d => .rot .rrc (.reg .d)
  | .rrc_e => .rot .rrc (.reg .e)
  | .rrc_h => .rot .rrc (.reg .h)
  | .rrc_l => .rot .rrc (.reg .l)
  | .rrc_atHL => .rot .rrc .atHL
  | .rrc_a => .rot .rrc (.reg .a)
  | .rl_b => .rot .rl (.reg .b)
  | .rl_c => .rot .rl (.reg .c)
  | .rl_d => .rot .rl (.reg .d)
  | .rl_e => .rot .rl (.reg .e)
  | .rl_h => .rot .rl (.reg .h)
  | .rl_l => .rot .rl (.reg .l)
  | .rl_atHL => .rot .rl .atHL
  | .rl_a => .rot .rl (.reg .a)
  | .rr_b => .rot .rr (.reg .b)
  | .rr_c => .rot .rr (.reg .c)
  | .rr_d => .rot .rr (.reg .d)
  | .rr_e => .rot .rr (.reg .e)
  | .rr_h => .rot .rr (.reg .h)
  | .rr_l => .rot .rr (.reg .l)
  | .rr_atHL => .rot .rr .atHL
  | .rr_a => .rot .rr (.reg .a)
  | .sla_b => .rot .sla (.reg .b)
  | .sla_c => .rot .sla (.reg .c)
  | .sla_d => .rot .sla (.reg .d)
  | .sla_e => .rot .sla (.reg .e)
  | .sla_h => .rot .sla (.reg .h)
  | .sla_l => .rot .sla (.reg .l)
  | .sla_atHL => .rot .sla .atHL
  | .sla_a => .rot .sla (.reg .a)
  | .sra_b => .rot .sra (.reg .b)
  | .sra_c => .rot .sra (.reg .c)
  | .sra_d => .rot .sra (.reg .d)
  | .sra_e => .rot .sra (.reg .e)
  | .sra_h => .rot .sra (.reg .h)
  | .sra_l => .rot .sra (.reg .l)
  | .sra_atHL => .rot .sra .atHL
  | .sra_a => .rot .sra (.reg .a)
  | .swap_b => .rot .swap (.reg .b)
  | .swap_c => .rot .swap (.reg .c)
  | .swap_d => .rot .swap (.reg .d)
  | .swap_e => .rot .swap (.reg .e)
  | .swap_h => .rot .swap (.reg .h)
  | .swap_l => .rot .swap (.reg .l)
  | .swap_atHL => .rot .swap .atHL
  | .swap_a => .rot .swap (.reg .a)
  | .srl_b => .rot .srl (.reg .b)
  | .srl_c => .rot .srl (.reg .c)
  | .srl_d => .rot .srl (.reg .d)
  | .srl_e => .rot .srl (.reg .e)
  | .srl_h => .rot .srl (.reg .h)
  | .srl_l => .rot .srl (.reg .l)
  | .srl_atHL => .rot .srl .atHL
  | .srl_a => .rot .srl (.reg .a)
  | .bit_0_b => .bit 0 (.reg .b)
  | .bit_0_c => .bit 0 (.reg .c)
  | .bit_0_d => .bit 0 (.reg .d)
  | .bit_0_e => .bit 0 (.reg .e)
  | .bit_0_h => .bit 0 (.reg .h)
  | .bit_0_l => .bit 0 (.reg .l)
  | .bit_0_atHL => .bit 0 .atHL
  | .bit_0_a => .bit 0 (.reg .a)
  | .bit_1_b => .bit 1 (.reg .b)
  | .bit_1_c => .bit 1 (.reg .c)
  | .bit_1_d => .bit 1 (.reg .d)
  | .bit_1_e => .bit 1 (.reg .e)
  | .bit_1_h => .bit 1 (.reg .h)
  | .bit_1_l => .bit 1 (.reg .l)
  | .bit_1_atHL => .bit 1 .atHL
  | .bit_1_a => .bit 1 (.reg .a)
  | .bit_2_b => .bit 2 (.reg .b)
  | .bit_2_c => .bit 2 (.reg .c)
  | .bit_2_d => .bit 2 (.reg .d)
  | .bit_2_e => .bit 2 (.reg .e)
  | .bit_2_h => .bit 2 (.reg .h)
  | .bit_2_l => .bit 2 (.reg .l)
  | .bit_2_atHL => .bit 2 .atHL
  | .bit_2_a => .bit 2 (.reg .a)
  | .bit_3_b => .bit 3 (.reg .b)
  | .bit_3_c => .bit 3 (.reg .c)
  | .bit_3_d => .bit 3 (.reg .d)
  | .bit_3_e => .bit 3 (.reg .e)
  | .bit_3_h => .bit 3 (.reg .h)
  | .bit_3_l => .bit 3 (.reg .l)
  | .bit_3_atHL => .bit 3 .atHL
  | .bit_3_a => .bit 3 (.reg .a)
  | .bit_4_b => .bit 4 (.reg .b)
  | .bit_4_c => .bit 4 (.reg .c)
  | .bit_4_d => .bit 4 (.reg .d)
  | .bit_4_e => .bit 4 (.reg .e)
  | .bit_4_h => .bit 4 (.reg .h)
  | .bit_4_l => .bit 4 (.reg .l)
  | .bit_4_atHL => .bit 4 .atHL
  | .bit_4_a => .bit 4 (.reg .a)
  | .bit_5_b => .bit 5 (.reg .b)
  | .bit_5_c => .bit 5 (.reg .c)
  | .bit_5_d => .bit 5 (.reg .d)
  | .bit_5_e => .bit 5 (.reg .e)
  | .bit_5_h => .bit 5 (.reg .h)
  | .bit_5_l => .bit 5 (.reg .l)
  | .bit_5_atHL => .bit 5 .atHL
  | .bit_5_a => .bit 5 (.reg .a)
  | .bit_6_b => .bit 6 (.reg .b)
  | .bit_6_c => .bit 6 (.reg .c)
  | .bit_6_d => .bit 6 (.reg .d)
  | .bit_6_e => .bit 6 (.reg .e)
  | .bit_6_h => .bit 6 (.reg .h)
  | .bit_6_l => .bit 6 (.reg .l)
  | .bit_6_atHL => .bit 6 .atHL
  | .bit_6_a => .bit 6 (.reg .a)
  | .bit_7_b => .bit 7 (.reg .b)
  | .bit_7_c => .bit 7 (.reg .c)
  | .bit_7_d => .bit 7 (.reg .d)
  | .bit_7_e => .bit 7 (.reg .e)
  | .bit_7_h => .bit 7 (.reg .h)
  | .bit_7_l => .bit 7 (.reg .l)
  | .bit_7_atHL => .bit 7 .atHL
  | .bit_7_a => .bit 7 (.reg .a)
  | .res_0_b => .res 0 (.reg .b)
  | .res_0_c => .res 0 (.reg .c)
  | .res_0_d => .res 0 (.reg .d)
  | .res_0_e => .res 0 (.reg .e)
  | .res_0_h => .res 0 (.reg .h)
  | .res_0_l => .res 0 (.reg .l)
  | .res_0_atHL => .res 0 .atHL
  | .res_0_a => .res 0 (.reg .a)
  | .res_1_b => .res 1 (.reg .b)
  | .res_1_c => .res 1 (.reg .c)
  | .res_1_d => .res 1 (.reg .d)
  | .res_1_e => .res 1 (.reg .e)
  | .res_1_h => .res 1 (.reg .h)
  | .res_1_l => .res 1 (.reg .l)
  | .res_1_atHL => .res 1 .atHL
  | .res_1_a => .res 1 (.reg .a)
  | .res_2_b => .res 2 (.reg .b)
  | .res_2_c => .res 2 (.reg .c)
  | .res_2_d => .res 2 (.reg .d)
  | .res_2_e => .res 2 (.reg .e)
  | .res_2_h => .res 2 (.reg .h)
  | .res_2_l => .res 2 (.reg .l)
  | .res_2_atHL => .res 2 .atHL
  | .res_2_a => .res 2 (.reg .a)
  | .res_3_b => .res 3 (.reg .b)
  | .res_3_c => .res 3 (.reg .c)
  | .res_3_d => .res 3 (.reg .d)
  | .res_3_e => .res 3 (.reg .e)
  | .res_3_h => .res 3 (.reg .h)
  | .res_3_l => .res 3 (.reg .l)
  | .res_3_atHL => .res 3 .atHL
  | .res_3_a => .res 3 (.reg .a)
  | .res_4_b => .res 4 (.reg .b)
  | .res_4_c => .res 4 (.reg .c)
  | .res_4_d => .res 4 (.reg .d)
  | .res_4_e => .res 4 (.reg .e)
  | .res_4_h => .res 4 (.reg .h)
  | .res_4_l => .res 4 (.reg .l)
  | .res_4_atHL => .res 4 .atHL
  | .res_4_a => .res 4 (.reg .a)
  | .res_5_b => .res 5 (.reg .b)
  | .res_5_c => .res 5 (.reg .c)
  | .res_5_d => .res 5 (.reg .d)
  | .res_5_e => .res 5 (.reg .e)
  | .res_5_h => .res 5 (.reg .h)
  | .res_5_l => .res 5 (.reg .l)
  | .res_5_atHL => .res 5 .atHL
  | .res_5_a => .res 5 (.reg .a)
  | .res_6_b => .res 6 (.reg .b)
  | .res_6_c => .res 6 (.reg .c)
  | .res_6_d => .res 6 (.reg .d)
  | .res_6_e => .res 6 (.reg .e)
  | .res_6_h => .res 6 (.reg .h)
  | .res_6_l => .res 6 (.reg .l)
  | .res_6_atHL => .res 6 .atHL
  | .res_6_a => .res 6 (.reg .a)
  | .res_7_b => .res 7 (.reg .b)
  | .res_7_c => .res 7 (.reg .c)
  | .res_7_d => .res 7 (.reg .d)
  | .res_7_e => .res 7 (.reg .e)
  | .res_7_h => .res 7 (.reg .h)
  | .res_7_l => .res 7 (.reg .l)
  | .res_7_atHL => .res 7 .atHL
  | .res_7_a => .res 7 (.reg .a)
  | .set_0_b => .set 0 (.reg .b)
  | .set_0_c => .set 0 (.reg .c)
  | .set_0_d => .set 0 (.reg .d)
  | .set_0_e => .set 0 (.reg .e)
  | .set_0_h => .set 0 (.reg .h)
  | .set_0_l => .set 0 (.reg .l)
  | .set_0_atHL => .set 0 .atHL
  | .set_0_a => .set 0 (.reg .a)
  | .set_1_b => .set 1 (.reg .b)
  | .set_1_c => .set 1 (.reg .c)
  | .set_1_d => .set 1 (.reg .d)
  | .set_1_e => .set 1 (.reg .e)
  | .set_1_h => .set 1 (.reg .h)
  | .set_1_l => .set 1 (.reg .l)
  | .set_1_atHL => .set 1 .atHL
  | .set_1_a => .set 1 (.reg .a)
  | .set_2_b => .set 2 (.reg .b)
  | .set_2_c => .set 2 (.reg .c)
  | .set_2_d => .set 2 (.reg .d)
  | .set_2_e => .set 2 (.reg .e)
  | .set_2_h => .set 2 (.reg .h)
  | .set_2_l => .set 2 (.reg .l)
  | .set_2_atHL => .set 2 .atHL
  | .set_2_a => .set 2 (.reg .a)
  | .set_3_b => .set 3 (.reg .b)
  | .set_3_c => .set 3 (.reg .c)
  | .set_3_d => .set 3 (.reg .d)
  | .set_3_e => .set 3 (.reg .e)
  | .set_3_h => .set 3 (.reg .h)
  | .set_3_l => .set 3 (.reg .l)
  | .set_3_atHL => .set 3 .atHL
  | .set_3_a => .set 3 (.reg .a)
  | .set_4_b => .set 4 (.reg .b)
  | .set_4_c => .set 4 (.reg .c)
  | .set_4_d => .set 4 (.reg .d)
  | .set_4_e => .set 4 (.reg .e)
  | .set_4_h => .set 4 (.reg .h)
  | .set_4_l => .set 4 (.reg .l)
  | .set_4_atHL => .set 4 .atHL
  | .set_4_a => .set 4 (.reg .a)
  | .set_5_b => .set 5 (.reg .b)
  | .set_5_c => .set 5 (.reg .c)
  | .set_5_d => .set 5 (.reg .d)
  | .set_5_e => .set 5 (.reg .e)
  | .set_5_h => .set 5 (.reg .h)
  | .set_5_l => .set 5 (.reg .l)
  | .set_5_atHL => .set 5 .atHL
  | .set_5_a => .set 5 (.reg .a)
  | .set_6_b => .set 6 (.reg .b)
  | .set_6_c => .set 6 (.reg .c)
  | .set_6_d => .set 6 (.reg .d)
  | .set_6_e => .set 6 (.reg .e)
  | .set_6_h => .set 6 (.reg .h)
  | .set_6_l => .set 6 (.reg .l)
  | .set_6_atHL => .set 6 .atHL
  | .set_6_a => .set 6 (.reg .a)
  | .set_7_b => .set 7 (.reg .b)
  | .set_7_c => .set 7 (.reg .c)
  | .set_7_d => .set 7 (.reg .d)
  | .set_7_e => .set 7 (.reg .e)
  | .set_7_h => .set 7 (.reg .h)
  | .set_7_l => .set 7 (.reg .l)
  | .set_7_atHL => .set 7 .atHL
  | .set_7_a => .set 7 (.reg .a)

end Sys2Proof.Machine
end

