-- ==== Sys2Proof/Laws/Memory.lean ====
section
/-! SUPPORT. The laws of lists of cells: what is read after a write, and that a write keeps the canonical form.
Two lists in canonical form that read alike are equal. -/

namespace Sys2Proof.Machine

@[simp] theorem Memory.read_nil (k : Nat) : Memory.read [] k = unlistedByte := rfl

theorem Memory.read_cons (a k : Nat) (v : Byte) (m : Memory) :
    Memory.read ((a, v) :: m) k = if a = k then v else Memory.read m k := rfl

theorem Memory.read_erase_self (m : Memory) (k : Nat) :
    Memory.read (Memory.erase m k) k = unlistedByte := by
  induction m with
  | nil => rfl
  | cons x m ih =>
    obtain ⟨a, v⟩ := x
    by_cases h : a = k
    · simpa [Memory.erase, h] using ih
    · simpa [Memory.erase, h, Memory.read_cons] using ih

theorem Memory.read_erase_of_ne (m : Memory) {k j : Nat} (hj : j ≠ k) :
    Memory.read (Memory.erase m k) j = Memory.read m j := by
  induction m with
  | nil => rfl
  | cons x m ih =>
    obtain ⟨a, v⟩ := x
    by_cases h : a = k
    · subst h
      have haj : a ≠ j := fun e => hj e.symm
      simpa [Memory.erase, Memory.read_cons, haj] using ih
    · simp only [Memory.erase] at ih
      simp [Memory.erase, h, Memory.read_cons, ih]

theorem Memory.erase_ne (m : Memory) (k : Nat) : ∀ x ∈ Memory.erase m k, x.1 ≠ k := by
  intro x hx
  simpa using (List.mem_filter.mp hx).2

theorem Memory.read_insert_self {m : Memory} {k : Nat} (v : Byte) (h : ∀ x ∈ m, x.1 ≠ k) :
    Memory.read (Memory.insert k v m) k = v := by
  induction m with
  | nil => simp [Memory.insert, Memory.read_cons]
  | cons x m ih =>
    obtain ⟨a, w⟩ := x
    have hx : a ≠ k := h (a, w) (by simp)
    have hm := ih (fun y hy => h y (by simp [hy]))
    by_cases hlt : k < a <;> simp [Memory.insert, hlt, Memory.read_cons, hx, hm]

theorem Memory.read_insert_of_ne (m : Memory) {k j : Nat} (v : Byte) (hj : j ≠ k) :
    Memory.read (Memory.insert k v m) j = Memory.read m j := by
  have hkj : k ≠ j := fun e => hj e.symm
  induction m with
  | nil => simp [Memory.insert, Memory.read_cons, hkj]
  | cons x m ih =>
    obtain ⟨a, w⟩ := x
    by_cases hlt : k < a <;> simp [Memory.insert, hlt, Memory.read_cons, hkj, ih]

/-- A read after a write to the same address gives the byte written. -/
theorem Memory.read_write_self (m : Memory) (k : Nat) (v : Byte) :
    Memory.read (Memory.write m k v) k = v := by
  unfold Memory.write
  split
  · next h => rw [h]; exact Memory.read_erase_self m k
  · exact Memory.read_insert_self v (Memory.erase_ne m k)

/-- A write leaves every other address alone. -/
theorem Memory.read_write_of_ne (m : Memory) {k j : Nat} (v : Byte) (hj : j ≠ k) :
    Memory.read (Memory.write m k v) j = Memory.read m j := by
  unfold Memory.write
  split
  · exact Memory.read_erase_of_ne m hj
  · rw [Memory.read_insert_of_ne _ v hj, Memory.read_erase_of_ne m hj]

theorem Memory.read_write (m : Memory) (k j : Nat) (v : Byte) :
    Memory.read (Memory.write m k v) j = if j = k then v else Memory.read m j := by
  split
  · next h => rw [h]; exact Memory.read_write_self m k v
  · next h => exact Memory.read_write_of_ne m v h

/-! ## The canonical form -/

theorem Memory.erase_wf {m : Memory} (k : Nat) (h : Memory.wf m) : Memory.wf (Memory.erase m k) :=
  ⟨h.1.filter _, fun x hx => h.2 x (List.mem_filter.mp hx).1⟩

theorem Memory.mem_insert {m : Memory} {k : Nat} {v : Byte} {x : Host.Cell} :
    x ∈ Memory.insert k v m ↔ x = (k, v) ∨ x ∈ m := by
  induction m with
  | nil => simp [Memory.insert]
  | cons y m ih =>
    obtain ⟨a, w⟩ := y
    by_cases hlt : k < a
    · simp [Memory.insert, hlt]
    · simp only [Memory.insert, hlt, if_false, List.mem_cons, ih]
      constructor
      · rintro (h | h | h)
        · exact .inr (.inl h)
        · exact .inl h
        · exact .inr (.inr h)
      · rintro (h | h | h)
        · exact .inr (.inl h)
        · exact .inl h
        · exact .inr (.inr h)

theorem Memory.insert_pairwise {m : Memory} {k : Nat} (v : Byte)
    (h : m.Pairwise (fun x y => x.1 < y.1)) (hne : ∀ x ∈ m, x.1 ≠ k) :
    (Memory.insert k v m).Pairwise (fun x y => x.1 < y.1) := by
  induction m with
  | nil => simp [Memory.insert]
  | cons y m ih =>
    obtain ⟨a, w⟩ := y
    have ha := List.pairwise_cons.mp h
    have hak : a ≠ k := hne (a, w) (by simp)
    by_cases hlt : k < a
    · simp only [Memory.insert, hlt, if_true]
      refine List.pairwise_cons.mpr ⟨fun z hz => ?_, h⟩
      rcases List.mem_cons.mp hz with rfl | hz
      · exact hlt
      · exact lt_trans hlt (ha.1 z hz)
    · simp only [Memory.insert, hlt, if_false]
      refine List.pairwise_cons.mpr ⟨fun z hz => ?_, ih ha.2 (fun x hx => hne x (by simp [hx]))⟩
      rcases Memory.mem_insert.mp hz with rfl | hz
      · show a < k
        omega
      · exact ha.1 z hz

/-- A write keeps the canonical form. -/
theorem Memory.write_wf {m : Memory} (k : Nat) (v : Byte) (h : Memory.wf m) :
    Memory.wf (Memory.write m k v) := by
  unfold Memory.write
  split
  · exact Memory.erase_wf k h
  · next hv =>
    have he := Memory.erase_wf k h
    refine ⟨Memory.insert_pairwise v he.1 (Memory.erase_ne m k), fun x hx => ?_⟩
    rcases Memory.mem_insert.mp hx with rfl | hx
    · exact hv
    · exact he.2 x hx

/-- A write adds no cell but one at its own address. -/
theorem Memory.mem_write {m : Memory} {k : Nat} {v : Byte} {x : Host.Cell}
    (h : x ∈ Memory.write m k v) : x.1 = k ∨ x ∈ m := by
  unfold Memory.write at h
  split at h
  · exact .inr (List.mem_filter.mp h).1
  · rcases Memory.mem_insert.mp h with rfl | h
    · exact .inl rfl
    · exact .inr (List.mem_filter.mp h).1

theorem Memory.read_eq_unlisted {m : Memory} {k : Nat} (h : ∀ x ∈ m, x.1 ≠ k) :
    Memory.read m k = unlistedByte := by
  induction m with
  | nil => rfl
  | cons y m ih =>
    obtain ⟨a, w⟩ := y
    have : a ≠ k := h (a, w) (by simp)
    simp [Memory.read_cons, this, ih (fun x hx => h x (by simp [hx]))]

/-- Two lists in canonical form that read alike everywhere are equal. -/
theorem Memory.ext_of_wf {m n : Memory} (hm : Memory.wf m) (hn : Memory.wf n)
    (h : ∀ k, Memory.read m k = Memory.read n k) : m = n := by
  induction m generalizing n with
  | nil =>
    cases n with
    | nil => rfl
    | cons y n =>
      obtain ⟨b, w⟩ := y
      have := h b
      simp only [Memory.read_nil, Memory.read_cons, if_true] at this
      exact absurd this.symm (hn.2 (b, w) (by simp))
  | cons x m ih =>
    obtain ⟨a, v⟩ := x
    have hav : v ≠ unlistedByte := hm.2 (a, v) (by simp)
    have hm' := List.pairwise_cons.mp hm.1
    cases n with
    | nil =>
      have := h a
      simp only [Memory.read_nil, Memory.read_cons, if_true] at this
      exact absurd this hav
    | cons y n =>
      obtain ⟨b, w⟩ := y
      have hbw : w ≠ unlistedByte := hn.2 (b, w) (by simp)
      have hn' := List.pairwise_cons.mp hn.1
      have hab : a = b := by
        rcases lt_trichotomy a b with hlt | heq | hgt
        · have h1 := h a
          rw [Memory.read_cons, if_pos rfl, Memory.read_cons, if_neg (by omega),
            Memory.read_eq_unlisted] at h1
          · exact absurd h1 hav
          · intro z hz
            have := hn'.1 z hz
            simp only at this
            omega
        · exact heq
        · have h1 := h b
          rw [Memory.read_cons (k := b), if_neg (by omega), Memory.read_cons, if_pos rfl,
            Memory.read_eq_unlisted] at h1
          · exact absurd h1.symm hbw
          · intro z hz
            have := hm'.1 z hz
            simp only at this
            omega
      subst hab
      have hvw : v = w := by simpa [Memory.read_cons] using h a
      subst hvw
      have hrest : m = n := by
        refine ih ⟨hm'.2, fun z hz => hm.2 z (by simp [hz])⟩
          ⟨hn'.2, fun z hz => hn.2 z (by simp [hz])⟩ (fun k => ?_)
        by_cases hk : a = k
        · subst hk
          rw [Memory.read_eq_unlisted, Memory.read_eq_unlisted]
          · intro z hz
            have := hn'.1 z hz
            simp only at this
            omega
          · intro z hz
            have := hm'.1 z hz
            simp only at this
            omega
        · have := h k
          simpa [Memory.read_cons, hk] using this
      rw [hrest]

end Sys2Proof.Machine
end

