-- ==== Sys2Proof/Laws/State.lean ====
section
/-! SUPPORT. One lemma per field per update, true by unfolding, so that no later proof unfolds a record update;
and the laws of the views: bytes and words, pairs, flags. -/

namespace Sys2Proof.Machine

/-! ## Bytes and words -/

theorem getLsbD_concat (hi lo : Byte) (i : Nat) :
    (concat hi lo).getLsbD i = if i < 8 then lo.getLsbD i else hi.getLsbD (i - 8) :=
  (BitVec.getLsbD_append (x := hi) (y := lo) (i := i)).trans (by cases decide (i < 8) <;> simp_all)

@[simp] theorem hiByte_concat (hi lo : Byte) : hiByte (concat hi lo) = hi := by
  refine BitVec.eq_of_getLsbD_eq fun i h => ?_
  simp [hiByte, getLsbD_concat, h]

@[simp] theorem loByte_concat (hi lo : Byte) : loByte (concat hi lo) = lo := by
  refine BitVec.eq_of_getLsbD_eq fun i h => ?_
  simp [loByte, getLsbD_concat, h]

@[simp] theorem concat_hiByte_loByte (v : Word) : concat (hiByte v) (loByte v) = v := by
  simp only [hiByte, loByte, concat]
  exact BitVec.extractLsb'_append_extractLsb'_eq_extractLsb' (by rfl) |>.trans (by simp)

/-! ## `setReg` (R16) -/

@[simp] theorem setReg_f (s : State) (r : Reg8) (v : Byte) : (s.setReg r v).f = s.f := by
  cases r <;> rfl

@[simp] theorem setReg_sp (s : State) (r : Reg8) (v : Byte) : (s.setReg r v).sp = s.sp := by
  cases r <;> rfl

@[simp] theorem setReg_pc (s : State) (r : Reg8) (v : Byte) : (s.setReg r v).pc = s.pc := by
  cases r <;> rfl

@[simp] theorem setReg_ime (s : State) (r : Reg8) (v : Byte) : (s.setReg r v).ime = s.ime := by
  cases r <;> rfl

@[simp] theorem setReg_mode (s : State) (r : Reg8) (v : Byte) : (s.setReg r v).mode = s.mode := by
  cases r <;> rfl

@[simp] theorem setReg_mem (s : State) (r : Reg8) (v : Byte) : (s.setReg r v).mem = s.mem := by
  cases r <;> rfl

@[simp] theorem setReg_ie (s : State) (r : Reg8) (v : Byte) : (s.setReg r v).ie = s.ie := by
  cases r <;> rfl

@[simp] theorem setReg_cfg (s : State) (r : Reg8) (v : Byte) : (s.setReg r v).cfg = s.cfg := by
  cases r <;> rfl

@[simp] theorem reg_setReg_self (s : State) (r : Reg8) (v : Byte) : (s.setReg r v).reg r = v := by
  cases r <;> rfl

theorem reg_setReg_of_ne (s : State) {r r' : Reg8} (v : Byte) (h : r' ≠ r) :
    (s.setReg r v).reg r' = s.reg r' := by
  cases r <;> cases r' <;> first | rfl | exact absurd rfl h

/-! ## `setPair` (R20) -/

@[simp] theorem setPair_sp (s : State) (p : Pair) (v : Word) : (s.setPair p v).sp = s.sp := by
  cases p <;> rfl

@[simp] theorem setPair_pc (s : State) (p : Pair) (v : Word) : (s.setPair p v).pc = s.pc := by
  cases p <;> rfl

@[simp] theorem setPair_ime (s : State) (p : Pair) (v : Word) : (s.setPair p v).ime = s.ime := by
  cases p <;> rfl

@[simp] theorem setPair_mode (s : State) (p : Pair) (v : Word) : (s.setPair p v).mode = s.mode := by
  cases p <;> rfl

@[simp] theorem setPair_mem (s : State) (p : Pair) (v : Word) : (s.setPair p v).mem = s.mem := by
  cases p <;> rfl

@[simp] theorem setPair_ie (s : State) (p : Pair) (v : Word) : (s.setPair p v).ie = s.ie := by
  cases p <;> rfl

@[simp] theorem setPair_cfg (s : State) (p : Pair) (v : Word) : (s.setPair p v).cfg = s.cfg := by
  cases p <;> rfl

@[simp] theorem pair_setPair_bc (s : State) (v : Word) : (s.setPair .bc v).pair .bc = v :=
  concat_hiByte_loByte v

@[simp] theorem pair_setPair_de (s : State) (v : Word) : (s.setPair .de v).pair .de = v :=
  concat_hiByte_loByte v

@[simp] theorem pair_setPair_hl (s : State) (v : Word) : (s.setPair .hl v).pair .hl = v :=
  concat_hiByte_loByte v

theorem setPair_f_of_ne_af (s : State) {p : Pair} (v : Word) (h : p ≠ .af) : (s.setPair p v).f = s.f := by
  cases p <;> first | rfl | exact absurd rfl h

/-! ## `setReg16` -/

@[simp] theorem setReg16_a (s : State) (p : Reg16) (v : Word) : (s.setReg16 p v).a = s.a := by
  cases p <;> rfl

@[simp] theorem setReg16_f (s : State) (p : Reg16) (v : Word) : (s.setReg16 p v).f = s.f := by
  cases p <;> rfl

@[simp] theorem setReg16_pc (s : State) (p : Reg16) (v : Word) : (s.setReg16 p v).pc = s.pc := by
  cases p <;> rfl

@[simp] theorem setReg16_ime (s : State) (p : Reg16) (v : Word) : (s.setReg16 p v).ime = s.ime := by
  cases p <;> rfl

@[simp] theorem setReg16_mode (s : State) (p : Reg16) (v : Word) : (s.setReg16 p v).mode = s.mode := by
  cases p <;> rfl

@[simp] theorem setReg16_mem (s : State) (p : Reg16) (v : Word) : (s.setReg16 p v).mem = s.mem := by
  cases p <;> rfl

@[simp] theorem setReg16_ie (s : State) (p : Reg16) (v : Word) : (s.setReg16 p v).ie = s.ie := by
  cases p <;> rfl

@[simp] theorem setReg16_cfg (s : State) (p : Reg16) (v : Word) : (s.setReg16 p v).cfg = s.cfg := by
  cases p <;> rfl

@[simp] theorem reg16_setReg16_self (s : State) (p : Reg16) (v : Word) : (s.setReg16 p v).reg16 p = v := by
  cases p <;> first | rfl | exact concat_hiByte_loByte v

/-! ## `writeFlags` and `setFlag` (R24) -/

@[simp] theorem writeFlags_a (s : State) (w : FlagWrite) : (s.writeFlags w).a = s.a := rfl

@[simp] theorem setFlag_a (s : State) (x : Flag) (b : Bool) : (s.setFlag x b).a = s.a := rfl

@[simp] theorem writeFlags_b (s : State) (w : FlagWrite) : (s.writeFlags w).b = s.b := rfl

@[simp] theorem setFlag_b (s : State) (x : Flag) (b : Bool) : (s.setFlag x b).b = s.b := rfl

@[simp] theorem writeFlags_c (s : State) (w : FlagWrite) : (s.writeFlags w).c = s.c := rfl

@[simp] theorem setFlag_c (s : State) (x : Flag) (b : Bool) : (s.setFlag x b).c = s.c := rfl

@[simp] theorem writeFlags_d (s : State) (w : FlagWrite) : (s.writeFlags w).d = s.d := rfl

@[simp] theorem setFlag_d (s : State) (x : Flag) (b : Bool) : (s.setFlag x b).d = s.d := rfl

@[simp] theorem writeFlags_e (s : State) (w : FlagWrite) : (s.writeFlags w).e = s.e := rfl

@[simp] theorem setFlag_e (s : State) (x : Flag) (b : Bool) : (s.setFlag x b).e = s.e := rfl

@[simp] theorem writeFlags_h (s : State) (w : FlagWrite) : (s.writeFlags w).h = s.h := rfl

@[simp] theorem setFlag_h (s : State) (x : Flag) (b : Bool) : (s.setFlag x b).h = s.h := rfl

@[simp] theorem writeFlags_l (s : State) (w : FlagWrite) : (s.writeFlags w).l = s.l := rfl

@[simp] theorem setFlag_l (s : State) (x : Flag) (b : Bool) : (s.setFlag x b).l = s.l := rfl

@[simp] theorem writeFlags_sp (s : State) (w : FlagWrite) : (s.writeFlags w).sp = s.sp := rfl

@[simp] theorem setFlag_sp (s : State) (x : Flag) (b : Bool) : (s.setFlag x b).sp = s.sp := rfl

@[simp] theorem writeFlags_pc (s : State) (w : FlagWrite) : (s.writeFlags w).pc = s.pc := rfl

@[simp] theorem setFlag_pc (s : State) (x : Flag) (b : Bool) : (s.setFlag x b).pc = s.pc := rfl

@[simp] theorem writeFlags_ime (s : State) (w : FlagWrite) : (s.writeFlags w).ime = s.ime := rfl

@[simp] theorem setFlag_ime (s : State) (x : Flag) (b : Bool) : (s.setFlag x b).ime = s.ime := rfl

@[simp] theorem writeFlags_mode (s : State) (w : FlagWrite) : (s.writeFlags w).mode = s.mode := rfl

@[simp] theorem setFlag_mode (s : State) (x : Flag) (b : Bool) : (s.setFlag x b).mode = s.mode := rfl

@[simp] theorem writeFlags_mem (s : State) (w : FlagWrite) : (s.writeFlags w).mem = s.mem := rfl

@[simp] theorem setFlag_mem (s : State) (x : Flag) (b : Bool) : (s.setFlag x b).mem = s.mem := rfl

@[simp] theorem writeFlags_ie (s : State) (w : FlagWrite) : (s.writeFlags w).ie = s.ie := rfl

@[simp] theorem setFlag_ie (s : State) (x : Flag) (b : Bool) : (s.setFlag x b).ie = s.ie := rfl

@[simp] theorem writeFlags_cfg (s : State) (w : FlagWrite) : (s.writeFlags w).cfg = s.cfg := rfl

@[simp] theorem setFlag_cfg (s : State) (x : Flag) (b : Bool) : (s.setFlag x b).cfg = s.cfg := rfl

@[simp] theorem writeFlags_f (s : State) (w : FlagWrite) : (s.writeFlags w).f = w.apply s.f := rfl

@[simp] theorem writeFlags_reg (s : State) (w : FlagWrite) (r : Reg8) : (s.writeFlags w).reg r = s.reg r := by
  cases r <;> rfl

/-- A bit written reads as written, and the other bits as before. -/
theorem getLsbD_putBit (v : Byte) {i j : Nat} (b : Bool) (hi : i < 8) (hj : j < 8) :
    (putBit v i b).getLsbD j = if j = i then b else v.getLsbD j := by
  have key : ∀ (i j : Fin 8) (b x : Bool) (v : Byte), v.getLsbD j = x →
      (putBit v i b).getLsbD j = if j = i then b else x := by
    intro i j b x v hv
    cases b <;> simp only [putBit, if_true, Bool.false_eq_true, if_false, BitVec.getLsbD_or,
      BitVec.getLsbD_and, BitVec.getLsbD_not, BitVec.getLsbD_shiftLeft, hv, j.isLt,
      decide_true, Bool.true_and, BitVec.getLsbD_one]
    all_goals
      by_cases h : j = i
      · subst h
        simp
      · have h' : (j : Nat) ≠ i := fun e => h (Fin.ext e)
        by_cases hlt : (j : Nat) < i
        · simp [h, hlt]
        · have h0 : (j : Nat) - i ≠ 0 := by omega
          simp [h, hlt, h0]
  have := key ⟨i, hi⟩ ⟨j, hj⟩ b (v.getLsbD j) v rfl
  simpa [Fin.ext_iff] using this

theorem Flag.bit_lt (x : Flag) : x.bit < 8 := by cases x <;> decide

theorem Flag.bit_inj {x y : Flag} (h : x.bit = y.bit) : x = y := by
  cases x <;> cases y <;> first | rfl | (simp [Flag.bit] at h)

/-- One flag written (R24). -/
theorem flag_setFlag (s : State) (x y : Flag) (b : Bool) :
    (s.setFlag x b).flag y = if y = x then b else s.flag y := by
  show (putBit s.f x.bit b).getLsbD y.bit = _
  rw [getLsbD_putBit s.f b x.bit_lt y.bit_lt]
  by_cases h : y = x
  · simp [h]
  · have : y.bit ≠ x.bit := fun e => h (Flag.bit_inj e)
    simp [h, this, State.flag]

/-- What a flag write leaves of a bit that is a flag's. -/
theorem getLsbD_putFlag (f : Byte) (x : Flag) (w : Option Bool) {j : Nat} (hj : j < 8) :
    (putFlag f x w).getLsbD j = if j = x.bit then w.getD (f.getLsbD j) else f.getLsbD j := by
  cases w with
  | none => simp [putFlag]
  | some b => simp [putFlag, getLsbD_putBit f b x.bit_lt hj]

/-- A flag write never touches bits 3..0 of F (R24, R25). -/
theorem apply_low (w : FlagWrite) (f : Byte) {j : Nat} (hj : j < 4) :
    (w.apply f).getLsbD j = f.getLsbD j := by
  have h8 : j < 8 := by omega
  have hz : j ≠ Flag.z.bit := by simp only [Flag.bit]; omega
  have hn : j ≠ Flag.n.bit := by simp only [Flag.bit]; omega
  have hh : j ≠ Flag.h.bit := by simp only [Flag.bit]; omega
  have hc : j ≠ Flag.c.bit := by simp only [Flag.bit]; omega
  simp only [FlagWrite.apply, getLsbD_putFlag _ _ _ h8, if_neg hz, if_neg hn, if_neg hh, if_neg hc]

/-- The flag `x` in a flag write. -/
def FlagWrite.get (w : FlagWrite) (x : Flag) : Option Bool :=
  match x with
  | .z => w.z
  | .n => w.n
  | .h => w.h
  | .c => w.c

/-- Each flag after a flag write: the value named, or the old one (R24). -/
theorem flag_writeFlags (s : State) (w : FlagWrite) (x : Flag) :
    (s.writeFlags w).flag x = (w.get x).getD (s.flag x) := by
  show (w.apply s.f).getLsbD x.bit = _
  simp only [FlagWrite.apply, getLsbD_putFlag _ _ _ x.bit_lt]
  cases x <;> simp [Flag.bit, FlagWrite.get, State.flag]

/-- Bits 3..0 of F are 0 exactly when each of them is (R25). -/
theorem low_nibble_zero_iff (f : Byte) : f &&& 0x0F#8 = 0x00#8 ↔ ∀ j, j < 4 → f.getLsbD j = false := by
  constructor
  · intro h j hj
    have := congrArg (fun v : Byte => v.getLsbD j) h
    have hm : (0x0F#8).getLsbD j = true := by
      have : j = 0 ∨ j = 1 ∨ j = 2 ∨ j = 3 := by omega
      rcases this with rfl | rfl | rfl | rfl <;> rfl
    simpa [BitVec.getLsbD_and, hm] using this
  · intro h
    refine BitVec.eq_of_getLsbD_eq fun j hj => ?_
    have hz : (0x00#8).getLsbD j = false := by simp
    rw [BitVec.getLsbD_and, hz]
    by_cases h4 : j < 4
    · simp [h j h4]
    · have : j = 4 ∨ j = 5 ∨ j = 6 ∨ j = 7 := by omega
      rcases this with rfl | rfl | rfl | rfl <;> simp

/-- A flag write keeps bits 3..0 of F at 0 (R25). -/
theorem apply_keeps_low_nibble (w : FlagWrite) {f : Byte} (h : f &&& 0x0F#8 = 0x00#8) :
    w.apply f &&& 0x0F#8 = 0x00#8 := by
  rw [low_nibble_zero_iff] at h ⊢
  intro j hj
  rw [apply_low w f hj, h j hj]

end Sys2Proof.Machine
end

