-- ==== Sys2Proof/Laws/Ops.lean ====
section
/-! SUPPORT. What each shared operation over memory can do, said once: a byte read and written, the stack
primitives, the fetch of a byte, and how an instruction ends. -/

namespace Sys2Proof.Machine

/-! ## Reading a byte -/

/-- A read looks at the RAM list, IE and the configuration only. -/
theorem memRead_congr {s t : State} (hm : t.mem = s.mem) (hi : t.ie = s.ie) (hc : t.cfg = s.cfg)
    (addr : Word) : memRead t addr = memRead s addr := by
  simp only [memRead, hm, hi, hc]

@[simp] theorem memRead_setReg (s : State) (r : Reg8) (v : Byte) (addr : Word) :
    memRead (s.setReg r v) addr = memRead s addr := memRead_congr (by simp) (by simp) (by simp) addr

@[simp] theorem memRead_setPair (s : State) (p : Pair) (v : Word) (addr : Word) :
    memRead (s.setPair p v) addr = memRead s addr := memRead_congr (by simp) (by simp) (by simp) addr

@[simp] theorem memRead_writeFlags (s : State) (w : FlagWrite) (addr : Word) :
    memRead (s.writeFlags w) addr = memRead s addr := memRead_congr rfl rfl rfl addr

/-- A read fails only with the fault of its own address and the kind Read (R36). -/
theorem memRead_error {s : State} {addr : Word} {e : Fault} (h : memRead s addr = .error e) :
    e = .unsupportedAddress addr .read := by
  unfold memRead at h
  split at h
  · split at h
    · cases h
    · cases h
      rfl
  all_goals cases h <;> rfl

/-! ## Writing a byte -/

/-- Whether a region stores what is written to it: the RAM arrays and IE (R37). -/
def Region.stores (r : Region) : Bool := r.isRam || decide (r = .ie)

/-- A write succeeds in one of three ways: into a RAM array, into IE, or discarded (R37). -/
theorem memWrite_ok {s t : State} {addr : Word} {v : Byte} (h : memWrite s addr v = .ok t) :
    ((regionOf addr).isRam = true ∧ t = { s with mem := Memory.write s.mem addr.toNat v }) ∨
    (regionOf addr = .ie ∧ t = { s with ie := v }) ∨
    ((regionOf addr).stores = false ∧ (regionOf addr).isUnsupported = false ∧ t = s) := by
  cases hr : regionOf addr <;> simp only [memWrite, hr] at h <;> cases h <;>
    simp [Region.isRam, Region.stores, Region.isUnsupported]

/-- A write changes nothing but the RAM list and IE. -/
theorem memWrite_frame {s t : State} {addr : Word} {v : Byte} (h : memWrite s addr v = .ok t) :
    t = { s with mem := t.mem, ie := t.ie } := by
  rcases memWrite_ok h with ⟨-, rfl⟩ | ⟨-, rfl⟩ | ⟨-, -, rfl⟩ <;> rfl

/-- A write fails exactly in VRAM, OAM and IO (R42). -/
theorem memWrite_isOk_iff (s : State) (addr : Word) (v : Byte) :
    (∃ t, memWrite s addr v = .ok t) ↔ (regionOf addr).isUnsupported = false := by
  cases hr : regionOf addr <;> simp [memWrite, hr, Region.isUnsupported]

theorem memWrite_error {s : State} {addr : Word} {v : Byte} {e : Fault}
    (h : memWrite s addr v = .error e) :
    e = .unsupportedAddress addr .write ∧ (regionOf addr).isUnsupported = true := by
  cases hr : regionOf addr <;> simp only [memWrite, hr] at h <;> cases h <;>
    exact ⟨rfl, rfl⟩

/-- Whether a write fails depends on the address alone. -/
theorem memWrite_unsupported (s : State) {addr : Word} (v : Byte)
    (h : (regionOf addr).isUnsupported = true) :
    memWrite s addr v = .error (.unsupportedAddress addr .write) := by
  cases hr : regionOf addr <;> simp [memWrite, hr, Region.isUnsupported] at h ⊢

/-- What every address reads as after a write (R37, R53): the byte written at its own address when that stores,
and what it read as before everywhere else. -/
theorem memRead_memWrite {s t : State} {addr : Word} {v : Byte} (h : memWrite s addr v = .ok t) (a : Word) :
    memRead t a =
      if a = addr ∧ (regionOf addr).stores = true then .ok v else memRead s a := by
  rcases memWrite_ok h with ⟨hr, rfl⟩ | ⟨hr, rfl⟩ | ⟨hs, -, rfl⟩
  · have hst : (regionOf addr).stores = true := by simp [Region.stores, hr]
    by_cases ha : a = addr
    · subst ha
      cases hra : regionOf a <;> simp [hra, Region.isRam] at hr <;>
        simp [memRead, hra, Region.stores, Region.isRam, Memory.read_write_self]
    · have hne : a.toNat ≠ addr.toNat := fun e => ha (BitVec.eq_of_toNat_eq e)
      simp [ha, memRead, Memory.read_write_of_ne _ _ hne]
  · by_cases ha : a = addr
    · subst ha
      simp [memRead, hr, Region.stores]
    · have hra : regionOf a ≠ .ie := by
        intro e
        have h1 : ∀ w : Word, regionOf w = .ie → w.toNat = 0xFFFF := by
          intro w hw
          simp only [regionOf] at hw
          have := w.isLt
          split_ifs at hw
          omega
        exact ha (BitVec.eq_of_toNat_eq ((h1 a e).trans (h1 addr hr).symm))
      cases hra' : regionOf a <;> simp [hra'] at hra <;> simp [memRead, hra', ha]
  · simp [hs]

/-! ## The stack (R48, R49) -/

/-- A pop of two readable bytes. -/
theorem pop16_ok {s : State} {lo hi : Byte} (hlo : memRead s s.sp = .ok lo)
    (hhi : memRead s (s.sp + 1#16) = .ok hi) :
    pop16 s = .ok (concat hi lo, { s with sp := s.sp + 2#16 }) := by
  have h1 : memRead { s with sp := s.sp + 1#16 } (s.sp + 1#16) = .ok hi :=
    (memRead_congr rfl rfl rfl _).trans hhi
  have h2 : s.sp + 1#16 + 1#16 = s.sp + 2#16 := by
    rw [BitVec.add_assoc]
    rfl
  simp only [pop16, pop8, hlo, h1, h2, bind, Except.bind, pure, Except.pure]

/-- A pop that succeeds read its two bytes, low first. -/
theorem pop16_inv {s t : State} {v : Word} (h : pop16 s = .ok (v, t)) :
    ∃ lo hi, memRead s s.sp = .ok lo ∧ memRead s (s.sp + 1#16) = .ok hi ∧ v = concat hi lo ∧
      t = { s with sp := s.sp + 2#16 } := by
  cases hlo : memRead s s.sp with
  | error e =>
    simp only [pop16, pop8, hlo, bind, Except.bind] at h
    cases h
  | ok lo =>
    cases hhi : memRead s (s.sp + 1#16) with
    | error e =>
      have h1 : memRead { s with sp := s.sp + 1#16 } (s.sp + 1#16) = .error e :=
        (memRead_congr rfl rfl rfl _).trans hhi
      simp only [pop16, pop8, hlo, h1, bind, Except.bind, pure, Except.pure] at h
      cases h
    | ok hi =>
      have := (pop16_ok hlo hhi).symm.trans h
      simp only [Except.ok.injEq, Prod.mk.injEq] at this
      exact ⟨lo, hi, rfl, rfl, this.1.symm, this.2.symm⟩

/-- A push is two byte writes, high byte first, and SP two lower (R48). -/
theorem push16_eq (s : State) (v : Word) :
    push16 s v =
      (memWrite s (s.sp - 1#16) (hiByte v)).bind fun s₁ =>
        (memWrite s₁ (s.sp - 2#16) (loByte v)).bind fun s₂ => .ok { s₂ with sp := s.sp - 2#16 } := by
  have h2 : s.sp - 1#16 - 1#16 = s.sp - 2#16 := by
    rw [BitVec.sub_sub]
    rfl
  cases h1 : regionOf (s.sp - 1#16) <;> cases h3 : regionOf (s.sp - 2#16) <;>
    simp [push16, push8, memWrite, h1, h2, h3, bind, Except.bind]

/-- What a push leaves (R48): SP two lower, the other registers as they were, and every address as two byte
writes leave it. -/
theorem push16_ok {s t : State} {v : Word} (h : push16 s v = .ok t) :
    t = { s with sp := s.sp - 2#16, mem := t.mem, ie := t.ie } ∧
    ∃ s₁ s₂, memWrite s (s.sp - 1#16) (hiByte v) = .ok s₁ ∧
      memWrite s₁ (s.sp - 2#16) (loByte v) = .ok s₂ ∧ t = { s₂ with sp := s.sp - 2#16 } := by
  rw [push16_eq] at h
  cases h1 : memWrite s (s.sp - 1#16) (hiByte v) with
  | error e => simp [h1, Except.bind] at h
  | ok s₁ =>
    cases h2 : memWrite s₁ (s.sp - 2#16) (loByte v) with
    | error e => simp [h1, h2, Except.bind] at h
    | ok s₂ =>
      simp only [h1, h2, Except.bind, Except.ok.injEq] at h
      subst h
      refine ⟨?_, s₁, s₂, rfl, h2, rfl⟩
      have f1 := memWrite_frame h1
      have f2 := memWrite_frame h2
      rw [f1] at f2
      rw [f2]

/-! ## Fetching (R84) -/

theorem fetchByte_ok {s : State} {v : Byte} (h : memRead s s.pc = .ok v) :
    fetchByte s = .ok (v, { s with pc := s.pc + 1#16 }) := by
  simp only [fetchByte, h, bind, Except.bind, pure, Except.pure]

theorem fetchByte_error {s : State} {e : Fault} (h : memRead s s.pc = .error e) :
    fetchByte s = .error e := by
  simp only [fetchByte, h, bind, Except.bind]

/-! ## How an instruction ends -/

@[simp] theorem finish_ok (s : State) : finish (.ok s) = .next s := rfl

@[simp] theorem finish_error (e : Fault) : finish (.error e) = .fault e := rfl

theorem finish_eq_next {r : Except Fault State} {t : State} : finish r = .next t ↔ r = .ok t := by
  cases r <;> simp [finish, raise]

end Sys2Proof.Machine
end

