-- ==== Sys2Proof/Laws/Effects.lean ====
section
/-! SUPPORT. What each shared operation of the meanings answers when it answers a next state, said once: a proof
about an instruction rewrites `exec` by its family's lemma and opens the operation with the lemma of its name here.
Then the same for the fetch and the step. -/

namespace Sys2Proof.Machine

theorem finish_bind {α : Type} {x : Except Fault α} {g : α → Except Fault State} {t : State} :
    finish (x >>= g) = .next t ↔ ∃ v, x = .ok v ∧ g v = .ok t := by
  rw [finish_eq_next]
  cases x <;> simp [bind, Except.bind]

/-! ## Operands -/

theorem writeOpnd_ok {s t : State} {o : Opnd8} {v : Byte} (h : writeOpnd s o v = .ok t) :
    (∃ r, o = .reg r ∧ t = s.setReg r v) ∨ (o = .atHL ∧ memWrite s (s.pair .hl) v = .ok t) := by
  cases o with
  | reg r => exact .inl ⟨r, rfl, (Except.ok.inj h).symm⟩
  | atHL => exact .inr ⟨rfl, h⟩

/-! ## Loads and stores -/

theorem loadReg_next {dst : Reg8} {addr : Word} {s t : State} :
    loadReg dst addr s = .next t ↔ ∃ v, memRead s addr = .ok v ∧ s.setReg dst v = t := by
  simp [loadReg, finish_bind, pure, Except.pure]

theorem storeByte_next {addr : Word} {v : Byte} {s t : State} :
    storeByte addr v s = .next t ↔ memWrite s addr v = .ok t := finish_eq_next

theorem loadAStep_next {newHL : Word} {s t : State} :
    loadAStep newHL s = .next t ↔
      ∃ v, memRead s (s.pair .hl) = .ok v ∧ (s.setReg .a v).setPair .hl newHL = t := by
  simp [loadAStep, finish_bind, pure, Except.pure]

theorem storeAStep_next {newHL : Word} {s t : State} :
    storeAStep newHL s = .next t ↔
      ∃ s₁, memWrite s (s.pair .hl) s.a = .ok s₁ ∧ s₁.setPair .hl newHL = t := by
  simp [storeAStep, finish_bind, pure, Except.pure]

theorem pushPair_next {q : Pair} {s t : State} :
    pushPair q s = .next t ↔ push16 s (s.pair q) = .ok t := finish_eq_next

theorem popPair_next {q : Pair} {s t : State} :
    popPair q s = .next t ↔ ∃ r, pop16 s = .ok r ∧ r.2.setPair q r.1 = t := by
  simp [popPair, finish_bind, pure, Except.pure]

/-! ## Arithmetic, logic, rotates and bits -/

/-- A binary operation writes A and F only. -/
theorem aluA_frame (op : AluOp) (v : Byte) (s : State) :
    aluA op v s = { s with a := (aluA op v s).a, f := (aluA op v s).f } := by
  cases op <;> rfl

theorem aluA_f (op : AluOp) (v : Byte) (s : State) :
    (aluA op v s).f = (aluOut op s.cfg.andSetsH s.a v (s.flag .c)).flags.apply s.f := by
  cases op <;> rfl

theorem aluOpnd_next {op : AluOp} {o : Opnd8} {s t : State} :
    aluOpnd op o s = .next t ↔ ∃ v, readOpnd s o = .ok v ∧ aluA op v s = t := by
  simp [aluOpnd, finish_bind, pure, Except.pure]

theorem incOpnd_next {o : Opnd8} {s t : State} :
    incOpnd o s = .next t ↔ ∃ v, readOpnd s o = .ok v ∧ ∃ s₁, writeOpnd s o (inc8 v).res = .ok s₁ ∧
      s₁.writeFlags (inc8 v).flags = t := by
  simp only [incOpnd, finish_bind]
  refine exists_congr fun v => and_congr_right fun _ => ?_
  cases writeOpnd s o (inc8 v).res <;> simp [bind, Except.bind, pure, Except.pure]

theorem decOpnd_next {o : Opnd8} {s t : State} :
    decOpnd o s = .next t ↔ ∃ v, readOpnd s o = .ok v ∧ ∃ s₁, writeOpnd s o (dec8 v).res = .ok s₁ ∧
      s₁.writeFlags (dec8 v).flags = t := by
  simp only [decOpnd, finish_bind]
  refine exists_congr fun v => and_congr_right fun _ => ?_
  cases writeOpnd s o (dec8 v).res <;> simp [bind, Except.bind, pure, Except.pure]

theorem rotOpnd_next {op : RotOp} {o : Opnd8} {s t : State} :
    rotOpnd op o s = .next t ↔ ∃ v, readOpnd s o = .ok v ∧
      ∃ s₁, writeOpnd s o (rotOut op v (s.flag .c)).res = .ok s₁ ∧
      s₁.writeFlags (rotOut op v (s.flag .c)).flags = t := by
  simp only [rotOpnd, finish_bind]
  refine exists_congr fun v => and_congr_right fun _ => ?_
  cases writeOpnd s o (rotOut op v (s.flag .c)).res <;> simp [bind, Except.bind, pure, Except.pure]

theorem bitOpnd_next {b : Fin 8} {o : Opnd8} {s t : State} :
    bitOpnd b o s = .next t ↔ ∃ v, readOpnd s o = .ok v ∧ s.writeFlags (bitFlags b v) = t := by
  simp [bitOpnd, finish_bind, pure, Except.pure]

theorem resOpnd_next {b : Fin 8} {o : Opnd8} {s t : State} :
    resOpnd b o s = .next t ↔ ∃ v, readOpnd s o = .ok v ∧ writeOpnd s o (putBit v b.val false) = .ok t := by
  simp [resOpnd, finish_bind]

theorem setOpnd_next {b : Fin 8} {o : Opnd8} {s t : State} :
    setOpnd b o s = .next t ↔ ∃ v, readOpnd s o = .ok v ∧ writeOpnd s o (putBit v b.val true) = .ok t := by
  simp [setOpnd, finish_bind]

theorem cbOnly_next {r : Result} {s t : State} :
    cbOnly s r = .next t ↔ s.cfg.cbEnabled = true ∧ r = .next t := by
  cases h : s.cfg.cbEnabled <;> simp [cbOnly, h, raise]

/-- The rule that a CB opcode selects is the meaning of the instruction that it decodes to (R77, R181). -/
theorem runCbOpcode_eq {s : State} (h : s.cfg.cbEnabled = true) (o : Byte) :
    runCbOpcode o s = exec (decodeCb o) s := by
  have hc : ∀ r, cbOnly s r = r := fun r => by simp [cbOnly, h]
  unfold runCbOpcode decodeCb
  generalize xField o = x
  match x with
  | 0 => exact ((exec_rot _ _ s).trans (hc _)).symm
  | 1 => exact ((exec_bit _ _ s).trans (hc _)).symm
  | 2 => exact ((exec_res _ _ s).trans (hc _)).symm
  | _ + 3 => exact ((exec_set _ _ s).trans (hc _)).symm

/-! ## Control transfer -/

theorem callTo_next {target : Word} {s t : State} :
    callTo target s = .next t ↔ ∃ s₁, push16 s s.pc = .ok s₁ ∧ { s₁ with pc := target } = t := by
  simp [callTo, finish_bind, pure, Except.pure]

theorem returnFrom_ok {s t : State} :
    returnFrom s = .ok t ↔ ∃ r, pop16 s = .ok r ∧ { r.2 with pc := r.1 } = t := by
  unfold returnFrom
  cases pop16 s <;> simp [bind, Except.bind, pure, Except.pure]

/-! ## The 0xCB byte -/

theorem exec_prefix_cb_next {s t : State} (h : exec .prefix_cb s = .next t) :
    ∃ o, s.cfg.cbEnabled = true ∧ memRead s s.pc = .ok o ∧
      exec (decodeCb o) { s with pc := s.pc + 1#16 } = .next t := by
  have h : exec_prefix_cb s = .next t := h
  unfold exec_prefix_cb at h
  split at h
  · next hc =>
    cases hr : memRead s s.pc with
    | error e => simp [fetchByte_error hr, raise] at h
    | ok o =>
      rw [fetchByte_ok hr] at h
      exact ⟨o, hc, rfl, (runCbOpcode_eq (s := { s with pc := s.pc + 1#16 }) hc o).symm.trans h⟩
  · simp [raise] at h

/-- An instruction of the CB map is of one of four families (R77). -/
theorem decodeCb_family {P : Instr → Prop} (o : Byte) (hrot : ∀ op x, P (Instr.rot op x))
    (hbit : ∀ b x, P (Instr.bit b x)) (hres : ∀ b x, P (Instr.res b x)) (hset : ∀ b x, P (Instr.set b x)) :
    P (decodeCb o) := by
  unfold decodeCb
  split
  · exact hrot _ _
  · exact hbit _ _
  · exact hres _ _
  · exact hset _ _

/-! ## Fetch and step -/

/-- The operand bytes are fetched one after another, and nothing but PC changes (R85). -/
theorem fetchInstr_ok {s t : State} {i : Instr} (h : fetchInstr s = .ok (i, t)) :
    ∃ op b1 b2, memRead s s.pc = .ok op ∧ i = instrOf s.cfg.cbEnabled op b1 b2 ∧
      t = { s with pc := t.pc } := by
  cases h0 : memRead s s.pc with
  | error e => simp [fetchInstr, fetchByte_error h0, bind, Except.bind] at h
  | ok op =>
    have hpc : ∀ p a, memRead { s with pc := p } a = memRead s a := fun _ a => memRead_congr rfl rfl rfl a
    simp only [fetchInstr, fetchByte_ok h0, bind, Except.bind, pure, Except.pure] at h
    match hn : operandBytes s.cfg.cbEnabled op with
    | 0 =>
      simp only [hn, fetchOperands, Except.ok.injEq, Prod.mk.injEq] at h
      exact ⟨op, _, _, rfl, h.1.symm, by rw [← h.2]⟩
    | 1 =>
      cases h1 : memRead s (s.pc + 1#16) with
      | error e =>
        have e1 := fetchByte_error (s := { s with pc := s.pc + 1#16 }) ((hpc _ _).trans h1)
        simp [hn, fetchOperands, e1, bind, Except.bind] at h
      | ok b1 =>
        have e1 := fetchByte_ok (s := { s with pc := s.pc + 1#16 }) ((hpc _ _).trans h1)
        simp only [hn, fetchOperands, e1, bind, Except.bind, pure, Except.pure, Except.ok.injEq,
          Prod.mk.injEq] at h
        exact ⟨op, _, _, rfl, h.1.symm, by rw [← h.2]⟩
    | n + 2 =>
      cases h1 : memRead s (s.pc + 1#16) with
      | error e =>
        have e1 := fetchByte_error (s := { s with pc := s.pc + 1#16 }) ((hpc _ _).trans h1)
        simp [hn, fetchOperands, e1, bind, Except.bind] at h
      | ok b1 =>
        have e1 := fetchByte_ok (s := { s with pc := s.pc + 1#16 }) ((hpc _ _).trans h1)
        cases h2 : memRead s (s.pc + 1#16 + 1#16) with
        | error e =>
          have e2 := fetchByte_error (s := { s with pc := s.pc + 1#16 + 1#16 }) ((hpc _ _).trans h2)
          simp [hn, fetchOperands, e1, e2, bind, Except.bind] at h
        | ok b2 =>
          have e2 := fetchByte_ok (s := { s with pc := s.pc + 1#16 + 1#16 }) ((hpc _ _).trans h2)
          simp only [hn, fetchOperands, e1, e2, bind, Except.bind, pure, Except.pure, Except.ok.injEq,
            Prod.mk.injEq] at h
          exact ⟨op, _, _, rfl, h.1.symm, by rw [← h.2]⟩

theorem step_running {s : State} (h : s.mode = .running) :
    step s =
      match fetchInstr s with
      | .ok (i, s₁) => exec i s₁
      | .error e => raise e := by
  simp only [step, h] <;> rfl

/-- A step that answers a next state was no step of a terminal state's, or it ran a fetched instruction. -/
theorem step_next {s t : State} (h : step s = .next t) :
    (s.mode ≠ .running ∧ t = s) ∨
    (s.mode = .running ∧ ∃ i s₁, fetchInstr s = .ok (i, s₁) ∧ exec i s₁ = .next t) := by
  cases hm : s.mode with
  | running =>
    rw [step_running hm] at h
    cases hf : fetchInstr s with
    | error e => simp [hf, raise] at h
    | ok r => exact .inr ⟨rfl, r.1, r.2, rfl, by simpa [hf] using h⟩
  | halted =>
    have : step s = .next s := by unfold step; rw [hm]
    exact .inl ⟨by simp, (Host.Outcome.next.inj (this.symm.trans h)).symm⟩
  | stopped =>
    have : step s = .next s := by unfold step; rw [hm]
    exact .inl ⟨by simp, (Host.Outcome.next.inj (this.symm.trans h)).symm⟩

end Sys2Proof.Machine
end

