-- ==== Sys2Proof/Laws/PerInstr.lean ====
section
/-! SUPPORT. The facts about every instruction as syntax, one lemma for each constructor. `OperandLength`: the
encoding of an instruction has as many operand bytes as its first byte alone announces (R60, R74). -/

namespace Sys2Proof.Laws.OperandLength

/-- The first byte of an instruction's encoding says how many bytes follow it (R74), under each value of
`CB_ENABLED` for which the instruction can be read. -/
def Statement (i : Instr) : Prop :=
  ∀ cb, i.wf cb = true → (encode i).length = 1 + operandBytes cb ((encode i).headD 0#8)

theorem nop : Statement .nop := fun cb _ => by cases cb <;> rfl
theorem ld_bc_n16 (n16 : Word) : Statement (.ld_bc_n16 n16) := fun cb _ => by cases cb <;> rfl
theorem ld_atBC_a : Statement .ld_atBC_a := fun cb _ => by cases cb <;> rfl
theorem inc_bc : Statement .inc_bc := fun cb _ => by cases cb <;> rfl
theorem inc_b : Statement .inc_b := fun cb _ => by cases cb <;> rfl
theorem dec_b : Statement .dec_b := fun cb _ => by cases cb <;> rfl
theorem ld_b_n8 (n8 : Byte) : Statement (.ld_b_n8 n8) := fun cb _ => by cases cb <;> rfl
theorem rlca : Statement .rlca := fun cb _ => by cases cb <;> rfl
theorem ld_atA16_sp (a16 : Word) : Statement (.ld_atA16_sp a16) := fun cb _ => by cases cb <;> rfl
theorem add_hl_bc : Statement .add_hl_bc := fun cb _ => by cases cb <;> rfl
theorem ld_a_atBC : Statement .ld_a_atBC := fun cb _ => by cases cb <;> rfl
theorem dec_bc : Statement .dec_bc := fun cb _ => by cases cb <;> rfl
theorem inc_c : Statement .inc_c := fun cb _ => by cases cb <;> rfl
theorem dec_c : Statement .dec_c := fun cb _ => by cases cb <;> rfl
theorem ld_c_n8 (n8 : Byte) : Statement (.ld_c_n8 n8) := fun cb _ => by cases cb <;> rfl
theorem rrca : Statement .rrca := fun cb _ => by cases cb <;> rfl
theorem stop (n8 : Byte) : Statement (.stop n8) := fun cb _ => by cases cb <;> rfl
theorem ld_de_n16 (n16 : Word) : Statement (.ld_de_n16 n16) := fun cb _ => by cases cb <;> rfl
theorem ld_atDE_a : Statement .ld_atDE_a := fun cb _ => by cases cb <;> rfl
theorem inc_de : Statement .inc_de := fun cb _ => by cases cb <;> rfl
theorem inc_d : Statement .inc_d := fun cb _ => by cases cb <;> rfl
theorem dec_d : Statement .dec_d := fun cb _ => by cases cb <;> rfl
theorem ld_d_n8 (n8 : Byte) : Statement (.ld_d_n8 n8) := fun cb _ => by cases cb <;> rfl
theorem rla : Statement .rla := fun cb _ => by cases cb <;> rfl
theorem jr_e8 (e8 : Byte) : Statement (.jr_e8 e8) := fun cb _ => by cases cb <;> rfl
theorem add_hl_de : Statement .add_hl_de := fun cb _ => by cases cb <;> rfl
theorem ld_a_atDE : Statement .ld_a_atDE := fun cb _ => by cases cb <;> rfl
theorem dec_de : Statement .dec_de := fun cb _ => by cases cb <;> rfl
theorem inc_e : Statement .inc_e := fun cb _ => by cases cb <;> rfl
theorem dec_e : Statement .dec_e := fun cb _ => by cases cb <;> rfl
theorem ld_e_n8 (n8 : Byte) : Statement (.ld_e_n8 n8) := fun cb _ => by cases cb <;> rfl
theorem rra : Statement .rra := fun cb _ => by cases cb <;> rfl
theorem jr_nz_e8 (e8 : Byte) : Statement (.jr_nz_e8 e8) := fun cb _ => by cases cb <;> rfl
theorem ld_hl_n16 (n16 : Word) : Statement (.ld_hl_n16 n16) := fun cb _ => by cases cb <;> rfl
theorem ld_atHLInc_a : Statement .ld_atHLInc_a := fun cb _ => by cases cb <;> rfl
theorem inc_hl : Statement .inc_hl := fun cb _ => by cases cb <;> rfl
theorem inc_h : Statement .inc_h := fun cb _ => by cases cb <;> rfl
theorem dec_h : Statement .dec_h := fun cb _ => by cases cb <;> rfl
theorem ld_h_n8 (n8 : Byte) : Statement (.ld_h_n8 n8) := fun cb _ => by cases cb <;> rfl
theorem daa : Statement .daa := fun cb _ => by cases cb <;> rfl
theorem jr_z_e8 (e8 : Byte) : Statement (.jr_z_e8 e8) := fun cb _ => by cases cb <;> rfl
theorem add_hl_hl : Statement .add_hl_hl := fun cb _ => by cases cb <;> rfl
theorem ld_a_atHLInc : Statement .ld_a_atHLInc := fun cb _ => by cases cb <;> rfl
theorem dec_hl : Statement .dec_hl := fun cb _ => by cases cb <;> rfl
theorem inc_l : Statement .inc_l := fun cb _ => by cases cb <;> rfl
theorem dec_l : Statement .dec_l := fun cb _ => by cases cb <;> rfl
theorem ld_l_n8 (n8 : Byte) : Statement (.ld_l_n8 n8) := fun cb _ => by cases cb <;> rfl
theorem cpl : Statement .cpl := fun cb _ => by cases cb <;> rfl
theorem jr_nc_e8 (e8 : Byte) : Statement (.jr_nc_e8 e8) := fun cb _ => by cases cb <;> rfl
theorem ld_sp_n16 (n16 : Word) : Statement (.ld_sp_n16 n16) := fun cb _ => by cases cb <;> rfl
theorem ld_atHLDec_a : Statement .ld_atHLDec_a := fun cb _ => by cases cb <;> rfl
theorem inc_sp : Statement .inc_sp := fun cb _ => by cases cb <;> rfl
theorem inc_atHL : Statement .inc_atHL := fun cb _ => by cases cb <;> rfl
theorem dec_atHL : Statement .dec_atHL := fun cb _ => by cases cb <;> rfl
theorem ld_atHL_n8 (n8 : Byte) : Statement (.ld_atHL_n8 n8) := fun cb _ => by cases cb <;> rfl
theorem scf : Statement .scf := fun cb _ => by cases cb <;> rfl
theorem jr_c_e8 (e8 : Byte) : Statement (.jr_c_e8 e8) := fun cb _ => by cases cb <;> rfl
theorem add_hl_sp : Statement .add_hl_sp := fun cb _ => by cases cb <;> rfl
theorem ld_a_atHLDec : Statement .ld_a_atHLDec := fun cb _ => by cases cb <;> rfl
theorem dec_sp : Statement .dec_sp := fun cb _ => by cases cb <;> rfl
theorem inc_a : Statement .inc_a := fun cb _ => by cases cb <;> rfl
theorem dec_a : Statement .dec_a := fun cb _ => by cases cb <;> rfl
theorem ld_a_n8 (n8 : Byte) : Statement (.ld_a_n8 n8) := fun cb _ => by cases cb <;> rfl
theorem ccf : Statement .ccf := fun cb _ => by cases cb <;> rfl
theorem ld_b_b : Statement .ld_b_b := fun cb _ => by cases cb <;> rfl
theorem ld_b_c : Statement .ld_b_c := fun cb _ => by cases cb <;> rfl
theorem ld_b_d : Statement .ld_b_d := fun cb _ => by cases cb <;> rfl
theorem ld_b_e : Statement .ld_b_e := fun cb _ => by cases cb <;> rfl
theorem ld_b_h : Statement .ld_b_h := fun cb _ => by cases cb <;> rfl
theorem ld_b_l : Statement .ld_b_l := fun cb _ => by cases cb <;> rfl
theorem ld_b_atHL : Statement .ld_b_atHL := fun cb _ => by cases cb <;> rfl
theorem ld_b_a : Statement .ld_b_a := fun cb _ => by cases cb <;> rfl
theorem ld_c_b : Statement .ld_c_b := fun cb _ => by cases cb <;> rfl
theorem ld_c_c : Statement .ld_c_c := fun cb _ => by cases cb <;> rfl
theorem ld_c_d : Statement .ld_c_d := fun cb _ => by cases cb <;> rfl
theorem ld_c_e : Statement .ld_c_e := fun cb _ => by cases cb <;> rfl
theorem ld_c_h : Statement .ld_c_h := fun cb _ => by cases cb <;> rfl
theorem ld_c_l : Statement .ld_c_l := fun cb _ => by cases cb <;> rfl
theorem ld_c_atHL : Statement .ld_c_atHL := fun cb _ => by cases cb <;> rfl
theorem ld_c_a : Statement .ld_c_a := fun cb _ => by cases cb <;> rfl
theorem ld_d_b : Statement .ld_d_b := fun cb _ => by cases cb <;> rfl
theorem ld_d_c : Statement .ld_d_c := fun cb _ => by cases cb <;> rfl
theorem ld_d_d : Statement .ld_d_d := fun cb _ => by cases cb <;> rfl
theorem ld_d_e : Statement .ld_d_e := fun cb _ => by cases cb <;> rfl
theorem ld_d_h : Statement .ld_d_h := fun cb _ => by cases cb <;> rfl
theorem ld_d_l : Statement .ld_d_l := fun cb _ => by cases cb <;> rfl
theorem ld_d_atHL : Statement .ld_d_atHL := fun cb _ => by cases cb <;> rfl
theorem ld_d_a : Statement .ld_d_a := fun cb _ => by cases cb <;> rfl
theorem ld_e_b : Statement .ld_e_b := fun cb _ => by cases cb <;> rfl
theorem ld_e_c : Statement .ld_e_c := fun cb _ => by cases cb <;> rfl
theorem ld_e_d : Statement .ld_e_d := fun cb _ => by cases cb <;> rfl
theorem ld_e_e : Statement .ld_e_e := fun cb _ => by cases cb <;> rfl
theorem ld_e_h : Statement .ld_e_h := fun cb _ => by cases cb <;> rfl
theorem ld_e_l : Statement .ld_e_l := fun cb _ => by cases cb <;> rfl
theorem ld_e_atHL : Statement .ld_e_atHL := fun cb _ => by cases cb <;> rfl
theorem ld_e_a : Statement .ld_e_a := fun cb _ => by cases cb <;> rfl
theorem ld_h_b : Statement .ld_h_b := fun cb _ => by cases cb <;> rfl
theorem ld_h_c : Statement .ld_h_c := fun cb _ => by cases cb <;> rfl
theorem ld_h_d : Statement .ld_h_d := fun cb _ => by cases cb <;> rfl
theorem ld_h_e : Statement .ld_h_e := fun cb _ => by cases cb <;> rfl
theorem ld_h_h : Statement .ld_h_h := fun cb _ => by cases cb <;> rfl
theorem ld_h_l : Statement .ld_h_l := fun cb _ => by cases cb <;> rfl
theorem ld_h_atHL : Statement .ld_h_atHL := fun cb _ => by cases cb <;> rfl
theorem ld_h_a : Statement .ld_h_a := fun cb _ => by cases cb <;> rfl
theorem ld_l_b : Statement .ld_l_b := fun cb _ => by cases cb <;> rfl
theorem ld_l_c : Statement .ld_l_c := fun cb _ => by cases cb <;> rfl
theorem ld_l_d : Statement .ld_l_d := fun cb _ => by cases cb <;> rfl
theorem ld_l_e : Statement .ld_l_e := fun cb _ => by cases cb <;> rfl
theorem ld_l_h : Statement .ld_l_h := fun cb _ => by cases cb <;> rfl
theorem ld_l_l : Statement .ld_l_l := fun cb _ => by cases cb <;> rfl
theorem ld_l_atHL : Statement .ld_l_atHL := fun cb _ => by cases cb <;> rfl
theorem ld_l_a : Statement .ld_l_a := fun cb _ => by cases cb <;> rfl
theorem ld_atHL_b : Statement .ld_atHL_b := fun cb _ => by cases cb <;> rfl
theorem ld_atHL_c : Statement .ld_atHL_c := fun cb _ => by cases cb <;> rfl
theorem ld_atHL_d : Statement .ld_atHL_d := fun cb _ => by cases cb <;> rfl
theorem ld_atHL_e : Statement .ld_atHL_e := fun cb _ => by cases cb <;> rfl
theorem ld_atHL_h : Statement .ld_atHL_h := fun cb _ => by cases cb <;> rfl
theorem ld_atHL_l : Statement .ld_atHL_l := fun cb _ => by cases cb <;> rfl
theorem halt : Statement .halt := fun cb _ => by cases cb <;> rfl
theorem ld_atHL_a : Statement .ld_atHL_a := fun cb _ => by cases cb <;> rfl
theorem ld_a_b : Statement .ld_a_b := fun cb _ => by cases cb <;> rfl
theorem ld_a_c : Statement .ld_a_c := fun cb _ => by cases cb <;> rfl
theorem ld_a_d : Statement .ld_a_d := fun cb _ => by cases cb <;> rfl
theorem ld_a_e : Statement .ld_a_e := fun cb _ => by cases cb <;> rfl
theorem ld_a_h : Statement .ld_a_h := fun cb _ => by cases cb <;> rfl
theorem ld_a_l : Statement .ld_a_l := fun cb _ => by cases cb <;> rfl
theorem ld_a_atHL : Statement .ld_a_atHL := fun cb _ => by cases cb <;> rfl
theorem ld_a_a : Statement .ld_a_a := fun cb _ => by cases cb <;> rfl
theorem add_a_b : Statement .add_a_b := fun cb _ => by cases cb <;> rfl
theorem add_a_c : Statement .add_a_c := fun cb _ => by cases cb <;> rfl
theorem add_a_d : Statement .add_a_d := fun cb _ => by cases cb <;> rfl
theorem add_a_e : Statement .add_a_e := fun cb _ => by cases cb <;> rfl
theorem add_a_h : Statement .add_a_h := fun cb _ => by cases cb <;> rfl
theorem add_a_l : Statement .add_a_l := fun cb _ => by cases cb <;> rfl
theorem add_a_atHL : Statement .add_a_atHL := fun cb _ => by cases cb <;> rfl
theorem add_a_a : Statement .add_a_a := fun cb _ => by cases cb <;> rfl
theorem adc_a_b : Statement .adc_a_b := fun cb _ => by cases cb <;> rfl
theorem adc_a_c : Statement .adc_a_c := fun cb _ => by cases cb <;> rfl
theorem adc_a_d : Statement .adc_a_d := fun cb _ => by cases cb <;> rfl
theorem adc_a_e : Statement .adc_a_e := fun cb _ => by cases cb <;> rfl
theorem adc_a_h : Statement .adc_a_h := fun cb _ => by cases cb <;> rfl
theorem adc_a_l : Statement .adc_a_l := fun cb _ => by cases cb <;> rfl
theorem adc_a_atHL : Statement .adc_a_atHL := fun cb _ => by cases cb <;> rfl
theorem adc_a_a : Statement .adc_a_a := fun cb _ => by cases cb <;> rfl
theorem sub_b : Statement .sub_b := fun cb _ => by cases cb <;> rfl
theorem sub_c : Statement .sub_c := fun cb _ => by cases cb <;> rfl
theorem sub_d : Statement .sub_d := fun cb _ => by cases cb <;> rfl
theorem sub_e : Statement .sub_e := fun cb _ => by cases cb <;> rfl
theorem sub_h : Statement .sub_h := fun cb _ => by cases cb <;> rfl
theorem sub_l : Statement .sub_l := fun cb _ => by cases cb <;> rfl
theorem sub_atHL : Statement .sub_atHL := fun cb _ => by cases cb <;> rfl
theorem sub_a : Statement .sub_a := fun cb _ => by cases cb <;> rfl
theorem sbc_a_b : Statement .sbc_a_b := fun cb _ => by cases cb <;> rfl
theorem sbc_a_c : Statement .sbc_a_c := fun cb _ => by cases cb <;> rfl
theorem sbc_a_d : Statement .sbc_a_d := fun cb _ => by cases cb <;> rfl
theorem sbc_a_e : Statement .sbc_a_e := fun cb _ => by cases cb <;> rfl
theorem sbc_a_h : Statement .sbc_a_h := fun cb _ => by cases cb <;> rfl
theorem sbc_a_l : Statement .sbc_a_l := fun cb _ => by cases cb <;> rfl
theorem sbc_a_atHL : Statement .sbc_a_atHL := fun cb _ => by cases cb <;> rfl
theorem sbc_a_a : Statement .sbc_a_a := fun cb _ => by cases cb <;> rfl
theorem and_b : Statement .and_b := fun cb _ => by cases cb <;> rfl
theorem and_c : Statement .and_c := fun cb _ => by cases cb <;> rfl
theorem and_d : Statement .and_d := fun cb _ => by cases cb <;> rfl
theorem and_e : Statement .and_e := fun cb _ => by cases cb <;> rfl
theorem and_h : Statement .and_h := fun cb _ => by cases cb <;> rfl
theorem and_l : Statement .and_l := fun cb _ => by cases cb <;> rfl
theorem and_atHL : Statement .and_atHL := fun cb _ => by cases cb <;> rfl
theorem and_a : Statement .and_a := fun cb _ => by cases cb <;> rfl
theorem xor_b : Statement .xor_b := fun cb _ => by cases cb <;> rfl
theorem xor_c : Statement .xor_c := fun cb _ => by cases cb <;> rfl
theorem xor_d : Statement .xor_d := fun cb _ => by cases cb <;> rfl
theorem xor_e : Statement .xor_e := fun cb _ => by cases cb <;> rfl
theorem xor_h : Statement .xor_h := fun cb _ => by cases cb <;> rfl
theorem xor_l : Statement .xor_l := fun cb _ => by cases cb <;> rfl
theorem xor_atHL : Statement .xor_atHL := fun cb _ => by cases cb <;> rfl
theorem xor_a : Statement .xor_a := fun cb _ => by cases cb <;> rfl
theorem or_b : Statement .or_b := fun cb _ => by cases cb <;> rfl
theorem or_c : Statement .or_c := fun cb _ => by cases cb <;> rfl
theorem or_d : Statement .or_d := fun cb _ => by cases cb <;> rfl
theorem or_e : Statement .or_e := fun cb _ => by cases cb <;> rfl
theorem or_h : Statement .or_h := fun cb _ => by cases cb <;> rfl
theorem or_l : Statement .or_l := fun cb _ => by cases cb <;> rfl
theorem or_atHL : Statement .or_atHL := fun cb _ => by cases cb <;> rfl
theorem or_a : Statement .or_a := fun cb _ => by cases cb <;> rfl
theorem cp_b : Statement .cp_b := fun cb _ => by cases cb <;> rfl
theorem cp_c : Statement .cp_c := fun cb _ => by cases cb <;> rfl
theorem cp_d : Statement .cp_d := fun cb _ => by cases cb <;> rfl
theorem cp_e : Statement .cp_e := fun cb _ => by cases cb <;> rfl
theorem cp_h : Statement .cp_h := fun cb _ => by cases cb <;> rfl
theorem cp_l : Statement .cp_l := fun cb _ => by cases cb <;> rfl
theorem cp_atHL : Statement .cp_atHL := fun cb _ => by cases cb <;> rfl
theorem cp_a : Statement .cp_a := fun cb _ => by cases cb <;> rfl
theorem ret_nz : Statement .ret_nz := fun cb _ => by cases cb <;> rfl
theorem pop_bc : Statement .pop_bc := fun cb _ => by cases cb <;> rfl
theorem jp_nz_a16 (a16 : Word) : Statement (.jp_nz_a16 a16) := fun cb _ => by cases cb <;> rfl
theorem jp_a16 (a16 : Word) : Statement (.jp_a16 a16) := fun cb _ => by cases cb <;> rfl
theorem call_nz_a16 (a16 : Word) : Statement (.call_nz_a16 a16) := fun cb _ => by cases cb <;> rfl
theorem push_bc : Statement .push_bc := fun cb _ => by cases cb <;> rfl
theorem add_a_n8 (n8 : Byte) : Statement (.add_a_n8 n8) := fun cb _ => by cases cb <;> rfl
theorem rst_00h : Statement .rst_00h := fun cb _ => by cases cb <;> rfl
theorem ret_z : Statement .ret_z := fun cb _ => by cases cb <;> rfl
theorem ret : Statement .ret := fun cb _ => by cases cb <;> rfl
theorem jp_z_a16 (a16 : Word) : Statement (.jp_z_a16 a16) := fun cb _ => by cases cb <;> rfl
theorem call_z_a16 (a16 : Word) : Statement (.call_z_a16 a16) := fun cb _ => by cases cb <;> rfl
theorem call_a16 (a16 : Word) : Statement (.call_a16 a16) := fun cb _ => by cases cb <;> rfl
theorem adc_a_n8 (n8 : Byte) : Statement (.adc_a_n8 n8) := fun cb _ => by cases cb <;> rfl
theorem rst_08h : Statement .rst_08h := fun cb _ => by cases cb <;> rfl
theorem ret_nc : Statement .ret_nc := fun cb _ => by cases cb <;> rfl
theorem pop_de : Statement .pop_de := fun cb _ => by cases cb <;> rfl
theorem jp_nc_a16 (a16 : Word) : Statement (.jp_nc_a16 a16) := fun cb _ => by cases cb <;> rfl
theorem call_nc_a16 (a16 : Word) : Statement (.call_nc_a16 a16) := fun cb _ => by cases cb <;> rfl
theorem push_de : Statement .push_de := fun cb _ => by cases cb <;> rfl
theorem sub_n8 (n8 : Byte) : Statement (.sub_n8 n8) := fun cb _ => by cases cb <;> rfl
theorem rst_10h : Statement .rst_10h := fun cb _ => by cases cb <;> rfl
theorem ret_c : Statement .ret_c := fun cb _ => by cases cb <;> rfl
theorem reti : Statement .reti := fun cb _ => by cases cb <;> rfl
theorem jp_c_a16 (a16 : Word) : Statement (.jp_c_a16 a16) := fun cb _ => by cases cb <;> rfl
theorem call_c_a16 (a16 : Word) : Statement (.call_c_a16 a16) := fun cb _ => by cases cb <;> rfl
theorem sbc_a_n8 (n8 : Byte) : Statement (.sbc_a_n8 n8) := fun cb _ => by cases cb <;> rfl
theorem rst_18h : Statement .rst_18h := fun cb _ => by cases cb <;> rfl
theorem ldh_atA8_a (a8 : Byte) : Statement (.ldh_atA8_a a8) := fun cb _ => by cases cb <;> rfl
theorem pop_hl : Statement .pop_hl := fun cb _ => by cases cb <;> rfl
theorem ld_atC_a : Statement .ld_atC_a := fun cb _ => by cases cb <;> rfl
theorem push_hl : Statement .push_hl := fun cb _ => by cases cb <;> rfl
theorem and_n8 (n8 : Byte) : Statement (.and_n8 n8) := fun cb _ => by cases cb <;> rfl
theorem rst_20h : Statement .rst_20h := fun cb _ => by cases cb <;> rfl
theorem add_sp_e8 (e8 : Byte) : Statement (.add_sp_e8 e8) := fun cb _ => by cases cb <;> rfl
theorem jp_atHL : Statement .jp_atHL := fun cb _ => by cases cb <;> rfl
theorem ld_atA16_a (a16 : Word) : Statement (.ld_atA16_a a16) := fun cb _ => by cases cb <;> rfl
theorem xor_n8 (n8 : Byte) : Statement (.xor_n8 n8) := fun cb _ => by cases cb <;> rfl
theorem rst_28h : Statement .rst_28h := fun cb _ => by cases cb <;> rfl
theorem ldh_a_atA8 (a8 : Byte) : Statement (.ldh_a_atA8 a8) := fun cb _ => by cases cb <;> rfl
theorem pop_af : Statement .pop_af := fun cb _ => by cases cb <;> rfl
theorem ld_a_atC : Statement .ld_a_atC := fun cb _ => by cases cb <;> rfl
theorem di : Statement .di := fun cb _ => by cases cb <;> rfl
theorem push_af : Statement .push_af := fun cb _ => by cases cb <;> rfl
theorem or_n8 (n8 : Byte) : Statement (.or_n8 n8) := fun cb _ => by cases cb <;> rfl
theorem rst_30h : Statement .rst_30h := fun cb _ => by cases cb <;> rfl
theorem ld_hl_spE8 (e8 : Byte) : Statement (.ld_hl_spE8 e8) := fun cb _ => by cases cb <;> rfl
theorem ld_sp_hl : Statement .ld_sp_hl := fun cb _ => by cases cb <;> rfl
theorem ld_a_atA16 (a16 : Word) : Statement (.ld_a_atA16 a16) := fun cb _ => by cases cb <;> rfl
theorem ei : Statement .ei := fun cb _ => by cases cb <;> rfl
theorem cp_n8 (n8 : Byte) : Statement (.cp_n8 n8) := fun cb _ => by cases cb <;> rfl
theorem rst_38h : Statement .rst_38h := fun cb _ => by cases cb <;> rfl
theorem prefix_cb : Statement .prefix_cb := fun cb h => by cases cb <;> first | rfl | cases h
theorem undefined_d3 : Statement .undefined_d3 := fun cb _ => by cases cb <;> rfl
theorem undefined_db : Statement .undefined_db := fun cb _ => by cases cb <;> rfl
theorem undefined_dd : Statement .undefined_dd := fun cb _ => by cases cb <;> rfl
theorem undefined_e3 : Statement .undefined_e3 := fun cb _ => by cases cb <;> rfl
theorem undefined_e4 : Statement .undefined_e4 := fun cb _ => by cases cb <;> rfl
theorem undefined_eb : Statement .undefined_eb := fun cb _ => by cases cb <;> rfl
theorem undefined_ec : Statement .undefined_ec := fun cb _ => by cases cb <;> rfl
theorem undefined_ed : Statement .undefined_ed := fun cb _ => by cases cb <;> rfl
theorem undefined_f4 : Statement .undefined_f4 := fun cb _ => by cases cb <;> rfl
theorem undefined_fc : Statement .undefined_fc := fun cb _ => by cases cb <;> rfl
theorem undefined_fd : Statement .undefined_fd := fun cb _ => by cases cb <;> rfl
theorem rlc_b : Statement .rlc_b := fun cb h => by cases cb <;> first | rfl | cases h
theorem rlc_c : Statement .rlc_c := fun cb h => by cases cb <;> first | rfl | cases h
theorem rlc_d : Statement .rlc_d := fun cb h => by cases cb <;> first | rfl | cases h
theorem rlc_e : Statement .rlc_e := fun cb h => by cases cb <;> first | rfl | cases h
theorem rlc_h : Statement .rlc_h := fun cb h => by cases cb <;> first | rfl | cases h
theorem rlc_l : Statement .rlc_l := fun cb h => by cases cb <;> first | rfl | cases h
theorem rlc_atHL : Statement .rlc_atHL := fun cb h => by cases cb <;> first | rfl | cases h
theorem rlc_a : Statement .rlc_a := fun cb h => by cases cb <;> first | rfl | cases h
theorem rrc_b : Statement .rrc_b := fun cb h => by cases cb <;> first | rfl | cases h
theorem rrc_c : Statement .rrc_c := fun cb h => by cases cb <;> first | rfl | cases h
theorem rrc_d : Statement .rrc_d := fun cb h => by cases cb <;> first | rfl | cases h
theorem rrc_e : Statement .rrc_e := fun cb h => by cases cb <;> first | rfl | cases h
theorem rrc_h : Statement .rrc_h := fun cb h => by cases cb <;> first | rfl | cases h
theorem rrc_l : Statement .rrc_l := fun cb h => by cases cb <;> first | rfl | cases h
theorem rrc_atHL : Statement .rrc_atHL := fun cb h => by cases cb <;> first | rfl | cases h
theorem rrc_a : Statement .rrc_a := fun cb h => by cases cb <;> first | rfl | cases h
theorem rl_b : Statement .rl_b := fun cb h => by cases cb <;> first | rfl | cases h
theorem rl_c : Statement .rl_c := fun cb h => by cases cb <;> first | rfl | cases h
theorem rl_d : Statement .rl_d := fun cb h => by cases cb <;> first | rfl | cases h
theorem rl_e : Statement .rl_e := fun cb h => by cases cb <;> first | rfl | cases h
theorem rl_h : Statement .rl_h := fun cb h => by cases cb <;> first | rfl | cases h
theorem rl_l : Statement .rl_l := fun cb h => by cases cb <;> first | rfl | cases h
theorem rl_atHL : Statement .rl_atHL := fun cb h => by cases cb <;> first | rfl | cases h
theorem rl_a : Statement .rl_a := fun cb h => by cases cb <;> first | rfl | cases h
theorem rr_b : Statement .rr_b := fun cb h => by cases cb <;> first | rfl | cases h
theorem rr_c : Statement .rr_c := fun cb h => by cases cb <;> first | rfl | cases h
theorem rr_d : Statement .rr_d := fun cb h => by cases cb <;> first | rfl | cases h
theorem rr_e : Statement .rr_e := fun cb h => by cases cb <;> first | rfl | cases h
theorem rr_h : Statement .rr_h := fun cb h => by cases cb <;> first | rfl | cases h
theorem rr_l : Statement .rr_l := fun cb h => by cases cb <;> first | rfl | cases h
theorem rr_atHL : Statement .rr_atHL := fun cb h => by cases cb <;> first | rfl | cases h
theorem rr_a : Statement .rr_a := fun cb h => by cases cb <;> first | rfl | cases h
theorem sla_b : Statement .sla_b := fun cb h => by cases cb <;> first | rfl | cases h
theorem sla_c : Statement .sla_c := fun cb h => by cases cb <;> first | rfl | cases h
theorem sla_d : Statement .sla_d := fun cb h => by cases cb <;> first | rfl | cases h
theorem sla_e : Statement .sla_e := fun cb h => by cases cb <;> first | rfl | cases h
theorem sla_h : Statement .sla_h := fun cb h => by cases cb <;> first | rfl | cases h
theorem sla_l : Statement .sla_l := fun cb h => by cases cb <;> first | rfl | cases h
theorem sla_atHL : Statement .sla_atHL := fun cb h => by cases cb <;> first | rfl | cases h
theorem sla_a : Statement .sla_a := fun cb h => by cases cb <;> first | rfl | cases h
theorem sra_b : Statement .sra_b := fun cb h => by cases cb <;> first | rfl | cases h
theorem sra_c : Statement .sra_c := fun cb h => by cases cb <;> first | rfl | cases h
theorem sra_d : Statement .sra_d := fun cb h => by cases cb <;> first | rfl | cases h
theorem sra_e : Statement .sra_e := fun cb h => by cases cb <;> first | rfl | cases h
theorem sra_h : Statement .sra_h := fun cb h => by cases cb <;> first | rfl | cases h
theorem sra_l : Statement .sra_l := fun cb h => by cases cb <;> first | rfl | cases h
theorem sra_atHL : Statement .sra_atHL := fun cb h => by cases cb <;> first | rfl | cases h
theorem sra_a : Statement .sra_a := fun cb h => by cases cb <;> first | rfl | cases h
theorem swap_b : Statement .swap_b := fun cb h => by cases cb <;> first | rfl | cases h
theorem swap_c : Statement .swap_c := fun cb h => by cases cb <;> first | rfl | cases h
theorem swap_d : Statement .swap_d := fun cb h => by cases cb <;> first | rfl | cases h
theorem swap_e : Statement .swap_e := fun cb h => by cases cb <;> first | rfl | cases h
theorem swap_h : Statement .swap_h := fun cb h => by cases cb <;> first | rfl | cases h
theorem swap_l : Statement .swap_l := fun cb h => by cases cb <;> first | rfl | cases h
theorem swap_atHL : Statement .swap_atHL := fun cb h => by cases cb <;> first | rfl | cases h
theorem swap_a : Statement .swap_a := fun cb h => by cases cb <;> first | rfl | cases h
theorem srl_b : Statement .srl_b := fun cb h => by cases cb <;> first | rfl | cases h
theorem srl_c : Statement .srl_c := fun cb h => by cases cb <;> first | rfl | cases h
theorem srl_d : Statement .srl_d := fun cb h => by cases cb <;> first | rfl | cases h
theorem srl_e : Statement .srl_e := fun cb h => by cases cb <;> first | rfl | cases h
theorem srl_h : Statement .srl_h := fun cb h => by cases cb <;> first | rfl | cases h
theorem srl_l : Statement .srl_l := fun cb h => by cases cb <;> first | rfl | cases h
theorem srl_atHL : Statement .srl_atHL := fun cb h => by cases cb <;> first | rfl | cases h
theorem srl_a : Statement .srl_a := fun cb h => by cases cb <;> first | rfl | cases h
theorem bit_0_b : Statement .bit_0_b := fun cb h => by cases cb <;> first | rfl | cases h
theorem bit_0_c : Statement .bit_0_c := fun cb h => by cases cb <;> first | rfl | cases h
theorem bit_0_d : Statement .bit_0_d := fun cb h => by cases cb <;> first | rfl | cases h
theorem bit_0_e : Statement .bit_0_e := fun cb h => by cases cb <;> first | rfl | cases h
theorem bit_0_h : Statement .bit_0_h := fun cb h => by cases cb <;> first | rfl | cases h
theorem bit_0_l : Statement .bit_0_l := fun cb h => by cases cb <;> first | rfl | cases h
theorem bit_0_atHL : Statement .bit_0_atHL := fun cb h => by cases cb <;> first | rfl | cases h
theorem bit_0_a : Statement .bit_0_a := fun cb h => by cases cb <;> first | rfl | cases h
theorem bit_1_b : Statement .bit_1_b := fun cb h => by cases cb <;> first | rfl | cases h
theorem bit_1_c : Statement .bit_1_c := fun cb h => by cases cb <;> first | rfl | cases h
theorem bit_1_d : Statement .bit_1_d := fun cb h => by cases cb <;> first | rfl | cases h
theorem bit_1_e : Statement .bit_1_e := fun cb h => by cases cb <;> first | rfl | cases h
theorem bit_1_h : Statement .bit_1_h := fun cb h => by cases cb <;> first | rfl | cases h
theorem bit_1_l : Statement .bit_1_l := fun cb h => by cases cb <;> first | rfl | cases h
theorem bit_1_atHL : Statement .bit_1_atHL := fun cb h => by cases cb <;> first | rfl | cases h
theorem bit_1_a : Statement .bit_1_a := fun cb h => by cases cb <;> first | rfl | cases h
theorem bit_2_b : Statement .bit_2_b := fun cb h => by cases cb <;> first | rfl | cases h
theorem bit_2_c : Statement .bit_2_c := fun cb h => by cases cb <;> first | rfl | cases h
theorem bit_2_d : Statement .bit_2_d := fun cb h => by cases cb <;> first | rfl | cases h
theorem bit_2_e : Statement .bit_2_e := fun cb h => by cases cb <;> first | rfl | cases h
theorem bit_2_h : Statement .bit_2_h := fun cb h => by cases cb <;> first | rfl | cases h
theorem bit_2_l : Statement .bit_2_l := fun cb h => by cases cb <;> first | rfl | cases h
theorem bit_2_atHL : Statement .bit_2_atHL := fun cb h => by cases cb <;> first | rfl | cases h
theorem bit_2_a : Statement .bit_2_a := fun cb h => by cases cb <;> first | rfl | cases h
theorem bit_3_b : Statement .bit_3_b := fun cb h => by cases cb <;> first | rfl | cases h
theorem bit_3_c : Statement .bit_3_c := fun cb h => by cases cb <;> first | rfl | cases h
theorem bit_3_d : Statement .bit_3_d := fun cb h => by cases cb <;> first | rfl | cases h
theorem bit_3_e : Statement .bit_3_e := fun cb h => by cases cb <;> first | rfl | cases h
theorem bit_3_h : Statement .bit_3_h := fun cb h => by cases cb <;> first | rfl | cases h
theorem bit_3_l : Statement .bit_3_l := fun cb h => by cases cb <;> first | rfl | cases h
theorem bit_3_atHL : Statement .bit_3_atHL := fun cb h => by cases cb <;> first | rfl | cases h
theorem bit_3_a : Statement .bit_3_a := fun cb h => by cases cb <;> first | rfl | cases h
theorem bit_4_b : Statement .bit_4_b := fun cb h => by cases cb <;> first | rfl | cases h
theorem bit_4_c : Statement .bit_4_c := fun cb h => by cases cb <;> first | rfl | cases h
theorem bit_4_d : Statement .bit_4_d := fun cb h => by cases cb <;> first | rfl | cases h
theorem bit_4_e : Statement .bit_4_e := fun cb h => by cases cb <;> first | rfl | cases h
theorem bit_4_h : Statement .bit_4_h := fun cb h => by cases cb <;> first | rfl | cases h
theorem bit_4_l : Statement .bit_4_l := fun cb h => by cases cb <;> first | rfl | cases h
theorem bit_4_atHL : Statement .bit_4_atHL := fun cb h => by cases cb <;> first | rfl | cases h
theorem bit_4_a : Statement .bit_4_a := fun cb h => by cases cb <;> first | rfl | cases h
theorem bit_5_b : Statement .bit_5_b := fun cb h => by cases cb <;> first | rfl | cases h
theorem bit_5_c : Statement .bit_5_c := fun cb h => by cases cb <;> first | rfl | cases h
theorem bit_5_d : Statement .bit_5_d := fun cb h => by cases cb <;> first | rfl | cases h
theorem bit_5_e : Statement .bit_5_e := fun cb h => by cases cb <;> first | rfl | cases h
theorem bit_5_h : Statement .bit_5_h := fun cb h => by cases cb <;> first | rfl | cases h
theorem bit_5_l : Statement .bit_5_l := fun cb h => by cases cb <;> first | rfl | cases h
theorem bit_5_atHL : Statement .bit_5_atHL := fun cb h => by cases cb <;> first | rfl | cases h
theorem bit_5_a : Statement .bit_5_a := fun cb h => by cases cb <;> first | rfl | cases h
theorem bit_6_b : Statement .bit_6_b := fun cb h => by cases cb <;> first | rfl | cases h
theorem bit_6_c : Statement .bit_6_c := fun cb h => by cases cb <;> first | rfl | cases h
theorem bit_6_d : Statement .bit_6_d := fun cb h => by cases cb <;> first | rfl | cases h
theorem bit_6_e : Statement .bit_6_e := fun cb h => by cases cb <;> first | rfl | cases h
theorem bit_6_h : Statement .bit_6_h := fun cb h => by cases cb <;> first | rfl | cases h
theorem bit_6_l : Statement .bit_6_l := fun cb h => by cases cb <;> first | rfl | cases h
theorem bit_6_atHL : Statement .bit_6_atHL := fun cb h => by cases cb <;> first | rfl | cases h
theorem bit_6_a : Statement .bit_6_a := fun cb h => by cases cb <;> first | rfl | cases h
theorem bit_7_b : Statement .bit_7_b := fun cb h => by cases cb <;> first | rfl | cases h
theorem bit_7_c : Statement .bit_7_c := fun cb h => by cases cb <;> first | rfl | cases h
theorem bit_7_d : Statement .bit_7_d := fun cb h => by cases cb <;> first | rfl | cases h
theorem bit_7_e : Statement .bit_7_e := fun cb h => by cases cb <;> first | rfl | cases h
theorem bit_7_h : Statement .bit_7_h := fun cb h => by cases cb <;> first | rfl | cases h
theorem bit_7_l : Statement .bit_7_l := fun cb h => by cases cb <;> first | rfl | cases h
theorem bit_7_atHL : Statement .bit_7_atHL := fun cb h => by cases cb <;> first | rfl | cases h
theorem bit_7_a : Statement .bit_7_a := fun cb h => by cases cb <;> first | rfl | cases h
theorem res_0_b : Statement .res_0_b := fun cb h => by cases cb <;> first | rfl | cases h
theorem res_0_c : Statement .res_0_c := fun cb h => by cases cb <;> first | rfl | cases h
theorem res_0_d : Statement .res_0_d := fun cb h => by cases cb <;> first | rfl | cases h
theorem res_0_e : Statement .res_0_e := fun cb h => by cases cb <;> first | rfl | cases h
theorem res_0_h : Statement .res_0_h := fun cb h => by cases cb <;> first | rfl | cases h
theorem res_0_l : Statement .res_0_l := fun cb h => by cases cb <;> first | rfl | cases h
theorem res_0_atHL : Statement .res_0_atHL := fun cb h => by cases cb <;> first | rfl | cases h
theorem res_0_a : Statement .res_0_a := fun cb h => by cases cb <;> first | rfl | cases h
theorem res_1_b : Statement .res_1_b := fun cb h => by cases cb <;> first | rfl | cases h
theorem res_1_c : Statement .res_1_c := fun cb h => by cases cb <;> first | rfl | cases h
theorem res_1_d : Statement .res_1_d := fun cb h => by cases cb <;> first | rfl | cases h
theorem res_1_e : Statement .res_1_e := fun cb h => by cases cb <;> first | rfl | cases h
theorem res_1_h : Statement .res_1_h := fun cb h => by cases cb <;> first | rfl | cases h
theorem res_1_l : Statement .res_1_l := fun cb h => by cases cb <;> first | rfl | cases h
theorem res_1_atHL : Statement .res_1_atHL := fun cb h => by cases cb <;> first | rfl | cases h
theorem res_1_a : Statement .res_1_a := fun cb h => by cases cb <;> first | rfl | cases h
theorem res_2_b : Statement .res_2_b := fun cb h => by cases cb <;> first | rfl | cases h
theorem res_2_c : Statement .res_2_c := fun cb h => by cases cb <;> first | rfl | cases h
theorem res_2_d : Statement .res_2_d := fun cb h => by cases cb <;> first | rfl | cases h
theorem res_2_e : Statement .res_2_e := fun cb h => by cases cb <;> first | rfl | cases h
theorem res_2_h : Statement .res_2_h := fun cb h => by cases cb <;> first | rfl | cases h
theorem res_2_l : Statement .res_2_l := fun cb h => by cases cb <;> first | rfl | cases h
theorem res_2_atHL : Statement .res_2_atHL := fun cb h => by cases cb <;> first | rfl | cases h
theorem res_2_a : Statement .res_2_a := fun cb h => by cases cb <;> first | rfl | cases h
theorem res_3_b : Statement .res_3_b := fun cb h => by cases cb <;> first | rfl | cases h
theorem res_3_c : Statement .res_3_c := fun cb h => by cases cb <;> first | rfl | cases h
theorem res_3_d : Statement .res_3_d := fun cb h => by cases cb <;> first | rfl | cases h
theorem res_3_e : Statement .res_3_e := fun cb h => by cases cb <;> first | rfl | cases h
theorem res_3_h : Statement .res_3_h := fun cb h => by cases cb <;> first | rfl | cases h
theorem res_3_l : Statement .res_3_l := fun cb h => by cases cb <;> first | rfl | cases h
theorem res_3_atHL : Statement .res_3_atHL := fun cb h => by cases cb <;> first | rfl | cases h
theorem res_3_a : Statement .res_3_a := fun cb h => by cases cb <;> first | rfl | cases h
theorem res_4_b : Statement .res_4_b := fun cb h => by cases cb <;> first | rfl | cases h
theorem res_4_c : Statement .res_4_c := fun cb h => by cases cb <;> first | rfl | cases h
theorem res_4_d : Statement .res_4_d := fun cb h => by cases cb <;> first | rfl | cases h
theorem res_4_e : Statement .res_4_e := fun cb h => by cases cb <;> first | rfl | cases h
theorem res_4_h : Statement .res_4_h := fun cb h => by cases cb <;> first | rfl | cases h
theorem res_4_l : Statement .res_4_l := fun cb h => by cases cb <;> first | rfl | cases h
theorem res_4_atHL : Statement .res_4_atHL := fun cb h => by cases cb <;> first | rfl | cases h
theorem res_4_a : Statement .res_4_a := fun cb h => by cases cb <;> first | rfl | cases h
theorem res_5_b : Statement .res_5_b := fun cb h => by cases cb <;> first | rfl | cases h
theorem res_5_c : Statement .res_5_c := fun cb h => by cases cb <;> first | rfl | cases h
theorem res_5_d : Statement .res_5_d := fun cb h => by cases cb <;> first | rfl | cases h
theorem res_5_e : Statement .res_5_e := fun cb h => by cases cb <;> first | rfl | cases h
theorem res_5_h : Statement .res_5_h := fun cb h => by cases cb <;> first | rfl | cases h
theorem res_5_l : Statement .res_5_l := fun cb h => by cases cb <;> first | rfl | cases h
theorem res_5_atHL : Statement .res_5_atHL := fun cb h => by cases cb <;> first | rfl | cases h
theorem res_5_a : Statement .res_5_a := fun cb h => by cases cb <;> first | rfl | cases h
theorem res_6_b : Statement .res_6_b := fun cb h => by cases cb <;> first | rfl | cases h
theorem res_6_c : Statement .res_6_c := fun cb h => by cases cb <;> first | rfl | cases h
theorem res_6_d : Statement .res_6_d := fun cb h => by cases cb <;> first | rfl | cases h
theorem res_6_e : Statement .res_6_e := fun cb h => by cases cb <;> first | rfl | cases h
theorem res_6_h : Statement .res_6_h := fun cb h => by cases cb <;> first | rfl | cases h
theorem res_6_l : Statement .res_6_l := fun cb h => by cases cb <;> first | rfl | cases h
theorem res_6_atHL : Statement .res_6_atHL := fun cb h => by cases cb <;> first | rfl | cases h
theorem res_6_a : Statement .res_6_a := fun cb h => by cases cb <;> first | rfl | cases h
theorem res_7_b : Statement .res_7_b := fun cb h => by cases cb <;> first | rfl | cases h
theorem res_7_c : Statement .res_7_c := fun cb h => by cases cb <;> first | rfl | cases h
theorem res_7_d : Statement .res_7_d := fun cb h => by cases cb <;> first | rfl | cases h
theorem res_7_e : Statement .res_7_e := fun cb h => by cases cb <;> first | rfl | cases h
theorem res_7_h : Statement .res_7_h := fun cb h => by cases cb <;> first | rfl | cases h
theorem res_7_l : Statement .res_7_l := fun cb h => by cases cb <;> first | rfl | cases h
theorem res_7_atHL : Statement .res_7_atHL := fun cb h => by cases cb <;> first | rfl | cases h
theorem res_7_a : Statement .res_7_a := fun cb h => by cases cb <;> first | rfl | cases h
theorem set_0_b : Statement .set_0_b := fun cb h => by cases cb <;> first | rfl | cases h
theorem set_0_c : Statement .set_0_c := fun cb h => by cases cb <;> first | rfl | cases h
theorem set_0_d : Statement .set_0_d := fun cb h => by cases cb <;> first | rfl | cases h
theorem set_0_e : Statement .set_0_e := fun cb h => by cases cb <;> first | rfl | cases h
theorem set_0_h : Statement .set_0_h := fun cb h => by cases cb <;> first | rfl | cases h
theorem set_0_l : Statement .set_0_l := fun cb h => by cases cb <;> first | rfl | cases h
theorem set_0_atHL : Statement .set_0_atHL := fun cb h => by cases cb <;> first | rfl | cases h
theorem set_0_a : Statement .set_0_a := fun cb h => by cases cb <;> first | rfl | cases h
theorem set_1_b : Statement .set_1_b := fun cb h => by cases cb <;> first | rfl | cases h
theorem set_1_c : Statement .set_1_c := fun cb h => by cases cb <;> first | rfl | cases h
theorem set_1_d : Statement .set_1_d := fun cb h => by cases cb <;> first | rfl | cases h
theorem set_1_e : Statement .set_1_e := fun cb h => by cases cb <;> first | rfl | cases h
theorem set_1_h : Statement .set_1_h := fun cb h => by cases cb <;> first | rfl | cases h
theorem set_1_l : Statement .set_1_l := fun cb h => by cases cb <;> first | rfl | cases h
theorem set_1_atHL : Statement .set_1_atHL := fun cb h => by cases cb <;> first | rfl | cases h
theorem set_1_a : Statement .set_1_a := fun cb h => by cases cb <;> first | rfl | cases h
theorem set_2_b : Statement .set_2_b := fun cb h => by cases cb <;> first | rfl | cases h
theorem set_2_c : Statement .set_2_c := fun cb h => by cases cb <;> first | rfl | cases h
theorem set_2_d : Statement .set_2_d := fun cb h => by cases cb <;> first | rfl | cases h
theorem set_2_e : Statement .set_2_e := fun cb h => by cases cb <;> first | rfl | cases h
theorem set_2_h : Statement .set_2_h := fun cb h => by cases cb <;> first | rfl | cases h
theorem set_2_l : Statement .set_2_l := fun cb h => by cases cb <;> first | rfl | cases h
theorem set_2_atHL : Statement .set_2_atHL := fun cb h => by cases cb <;> first | rfl | cases h
theorem set_2_a : Statement .set_2_a := fun cb h => by cases cb <;> first | rfl | cases h
theorem set_3_b : Statement .set_3_b := fun cb h => by cases cb <;> first | rfl | cases h
theorem set_3_c : Statement .set_3_c := fun cb h => by cases cb <;> first | rfl | cases h
theorem set_3_d : Statement .set_3_d := fun cb h => by cases cb <;> first | rfl | cases h
theorem set_3_e : Statement .set_3_e := fun cb h => by cases cb <;> first | rfl | cases h
theorem set_3_h : Statement .set_3_h := fun cb h => by cases cb <;> first | rfl | cases h
theorem set_3_l : Statement .set_3_l := fun cb h => by cases cb <;> first | rfl | cases h
theorem set_3_atHL : Statement .set_3_atHL := fun cb h => by cases cb <;> first | rfl | cases h
theorem set_3_a : Statement .set_3_a := fun cb h => by cases cb <;> first | rfl | cases h
theorem set_4_b : Statement .set_4_b := fun cb h => by cases cb <;> first | rfl | cases h
theorem set_4_c : Statement .set_4_c := fun cb h => by cases cb <;> first | rfl | cases h
theorem set_4_d : Statement .set_4_d := fun cb h => by cases cb <;> first | rfl | cases h
theorem set_4_e : Statement .set_4_e := fun cb h => by cases cb <;> first | rfl | cases h
theorem set_4_h : Statement .set_4_h := fun cb h => by cases cb <;> first | rfl | cases h
theorem set_4_l : Statement .set_4_l := fun cb h => by cases cb <;> first | rfl | cases h
theorem set_4_atHL : Statement .set_4_atHL := fun cb h => by cases cb <;> first | rfl | cases h
theorem set_4_a : Statement .set_4_a := fun cb h => by cases cb <;> first | rfl | cases h
theorem set_5_b : Statement .set_5_b := fun cb h => by cases cb <;> first | rfl | cases h
theorem set_5_c : Statement .set_5_c := fun cb h => by cases cb <;> first | rfl | cases h
theorem set_5_d : Statement .set_5_d := fun cb h => by cases cb <;> first | rfl | cases h
theorem set_5_e : Statement .set_5_e := fun cb h => by cases cb <;> first | rfl | cases h
theorem set_5_h : Statement .set_5_h := fun cb h => by cases cb <;> first | rfl | cases h
theorem set_5_l : Statement .set_5_l := fun cb h => by cases cb <;> first | rfl | cases h
theorem set_5_atHL : Statement .set_5_atHL := fun cb h => by cases cb <;> first | rfl | cases h
theorem set_5_a : Statement .set_5_a := fun cb h => by cases cb <;> first | rfl | cases h
theorem set_6_b : Statement .set_6_b := fun cb h => by cases cb <;> first | rfl | cases h
theorem set_6_c : Statement .set_6_c := fun cb h => by cases cb <;> first | rfl | cases h
theorem set_6_d : Statement .set_6_d := fun cb h => by cases cb <;> first | rfl | cases h
theorem set_6_e : Statement .set_6_e := fun cb h => by cases cb <;> first | rfl | cases h
theorem set_6_h : Statement .set_6_h := fun cb h => by cases cb <;> first | rfl | cases h
theorem set_6_l : Statement .set_6_l := fun cb h => by cases cb <;> first | rfl | cases h
theorem set_6_atHL : Statement .set_6_atHL := fun cb h => by cases cb <;> first | rfl | cases h
theorem set_6_a : Statement .set_6_a := fun cb h => by cases cb <;> first | rfl | cases h
theorem set_7_b : Statement .set_7_b := fun cb h => by cases cb <;> first | rfl | cases h
theorem set_7_c : Statement .set_7_c := fun cb h => by cases cb <;> first | rfl | cases h
theorem set_7_d : Statement .set_7_d := fun cb h => by cases cb <;> first | rfl | cases h
theorem set_7_e : Statement .set_7_e := fun cb h => by cases cb <;> first | rfl | cases h
theorem set_7_h : Statement .set_7_h := fun cb h => by cases cb <;> first | rfl | cases h
theorem set_7_l : Statement .set_7_l := fun cb h => by cases cb <;> first | rfl | cases h
theorem set_7_atHL : Statement .set_7_atHL := fun cb h => by cases cb <;> first | rfl | cases h
theorem set_7_a : Statement .set_7_a := fun cb h => by cases cb <;> first | rfl | cases h

end Sys2Proof.Laws.OperandLength
end

