-- ==== Sys2Proof/Laws/Updates.lean ====
section
/-! SUPPORT. One induction over what an instruction does: a relation that every elementary update is in holds from a
state to the next one. An invariant or a frame of every instruction is this lemma with its own relation. -/

namespace Sys2Proof.Machine

/-- A relation between states that each elementary update of the machine is in: a register, a pair, the flags,
a byte of memory, PC and SP. Only the writes of IME and of the mode are left out. -/
structure Updates (R : State → State → Prop) : Prop where
  refl : ∀ s, R s s
  trans : ∀ {s t u}, R s t → R t u → R s u
  setReg : ∀ s r v, R s (s.setReg r v)
  setPair : ∀ s p v, R s (s.setPair p v)
  flags : ∀ s w, R s (s.writeFlags w)
  write : ∀ {s t a v}, memWrite s a v = .ok t → R s t
  pc : ∀ s v, R s { s with pc := v }
  sp : ∀ s v, R s { s with sp := v }

variable {R : State → State → Prop}

theorem Updates.ofPush16 (C : Updates R) {s t v} (h : push16 s v = .ok t) : R s t := by
  obtain ⟨-, s1, s2, h1, h2, h3⟩ := push16_ok h
  rw [h3]
  exact C.trans (C.trans (C.write h1) (C.write h2)) (C.sp _ _)

theorem Updates.ofPop16 (C : Updates R) {s t v} (h : pop16 s = .ok (v, t)) : R s t := by
  obtain ⟨_, _, -, -, -, rfl⟩ := pop16_inv h
  exact C.sp _ _

theorem Updates.ofWriteOpnd (C : Updates R) {s t o v} (h : writeOpnd s o v = .ok t) : R s t := by
  rcases writeOpnd_ok h with ⟨r, -, rfl⟩ | ⟨-, h⟩
  · exact C.setReg _ _ _
  · exact C.write h

theorem Updates.ofMemWrite16 (C : Updates R) {s t a v} (h : memWrite16 s a v = .ok t) : R s t := by
  unfold memWrite16 at h
  cases h1 : memWrite s a (loByte v) with
  | error e => simp [h1, bind, Except.bind] at h
  | ok s1 =>
    simp only [h1, bind, Except.bind] at h
    exact C.trans (C.write h1) (C.write h)

theorem Updates.ofAluA (C : Updates R) (op v s) : R s (aluA op v s) := by
  unfold aluA
  refine C.trans ?_ (C.flags _ _)
  split
  · exact C.refl _
  · exact C.setReg _ _ _

theorem Updates.ofSetReg16 (C : Updates R) (s p v) : R s (s.setReg16 p v) := by
  cases p
  · exact C.setPair s .bc v
  · exact C.setPair s .de v
  · exact C.setPair s .hl v
  · exact C.sp s v

/-- An instruction of one of the four families of the CB map (R77). -/
def IsCb (i : Instr) : Prop :=
  (∃ op o, i = Instr.rot op o) ∨ (∃ b o, i = Instr.bit b o) ∨ (∃ b o, i = Instr.res b o) ∨
    ∃ b o, i = Instr.set b o

/-- What one instruction can do, said once: it writes IME or the mode, or its next state is reached by elementary
updates alone. -/
theorem exec_rel (C : Updates R) {i : Instr} {s t : State} (h : exec i s = .next t) :
    (i = .halt ∨ (∃ n, i = .stop n) ∨ i = .di ∨ i = .ei ∨ i = .reti) ∨ R s t := by
  have CB : ∀ {i s t}, IsCb i → exec i s = .next t → R s t := by
    rintro i s t (⟨a, b, rfl⟩|⟨a, b, rfl⟩|⟨a, b, rfl⟩|⟨a, b, rfl⟩) h
    · rw [exec_rot, cbOnly_next, rotOpnd_next] at h
      obtain ⟨-, _, -, _, h2, rfl⟩ := h
      exact C.trans (C.ofWriteOpnd h2) (C.flags _ _)
    · rw [exec_bit, cbOnly_next, bitOpnd_next] at h
      obtain ⟨-, _, -, rfl⟩ := h
      exact C.flags _ _
    · rw [exec_res, cbOnly_next, resOpnd_next] at h
      obtain ⟨-, _, -, h⟩ := h
      exact C.ofWriteOpnd h
    · rw [exec_set, cbOnly_next, setOpnd_next] at h
      obtain ⟨-, _, -, h⟩ := h
      exact C.ofWriteOpnd h
  cases inFamily i with
  | prefix_cb =>
    right
    obtain ⟨o, -, -, h⟩ := exec_prefix_cb_next h
    refine C.trans (C.pc s _) (CB ?_ h)
    exact decodeCb_family (P := IsCb) o (by simp [IsCb]) (by simp [IsCb]) (by simp [IsCb])
      (by simp [IsCb])
  | rot op o => exact .inr (CB (.inl ⟨_, _, rfl⟩) h)
  | bit op o => exact .inr (CB (.inr (.inl ⟨_, _, rfl⟩)) h)
  | res op o => exact .inr (CB (.inr (.inr (.inl ⟨_, _, rfl⟩))) h)
  | set op o => exact .inr (CB (.inr (.inr (.inr ⟨_, _, rfl⟩))) h)
  | undefinedOpcode i hk =>
    rw [exec_undefinedOpcode hk] at h
    simp [raise] at h
  | halt => simp
  | stop => simp
  | di => simp
  | ei => simp
  | reti => simp
  | nop =>
    right
    have h : exec_nop s = .next t := h
    cases h
    exact C.refl _
  | ld_atBC_a =>
    right
    have h : exec_ld_atBC_a s = .next t := h
    exact C.write (storeByte_next.1 h)
  | rlca =>
    right
    have h : exec_rlca s = .next t := h
    cases h
    exact C.trans (C.setReg _ _ _) (C.flags _ _)
  | ld_atA16_sp a16 =>
    right
    have h : exec_ld_atA16_sp a16 s = .next t := h
    exact C.ofMemWrite16 (finish_eq_next.1 h)
  | ld_a_atBC =>
    right
    have h : exec_ld_a_atBC s = .next t := h
    obtain ⟨v, -, rfl⟩ := loadReg_next.1 h
    exact C.setReg _ _ _
  | rrca =>
    right
    have h : exec_rrca s = .next t := h
    cases h
    exact C.trans (C.setReg _ _ _) (C.flags _ _)
  | ld_atDE_a =>
    right
    have h : exec_ld_atDE_a s = .next t := h
    exact C.write (storeByte_next.1 h)
  | rla =>
    right
    have h : exec_rla s = .next t := h
    cases h
    exact C.trans (C.setReg _ _ _) (C.flags _ _)
  | jr_e8 e8 =>
    right
    have h : exec_jr_e8 e8 s = .next t := h
    cases h
    exact C.pc _ _
  | ld_a_atDE =>
    right
    have h : exec_ld_a_atDE s = .next t := h
    obtain ⟨v, -, rfl⟩ := loadReg_next.1 h
    exact C.setReg _ _ _
  | rra =>
    right
    have h : exec_rra s = .next t := h
    cases h
    exact C.trans (C.setReg _ _ _) (C.flags _ _)
  | ld_atHLInc_a =>
    right
    have h : exec_ld_atHLInc_a s = .next t := h
    obtain ⟨v, h1, rfl⟩ := storeAStep_next.1 h
    exact C.trans (C.write h1) (C.setPair _ _ _)
  | daa =>
    right
    have h : exec_daa s = .next t := h
    cases h
    exact C.trans (C.setReg _ _ _) (C.flags _ _)
  | ld_a_atHLInc =>
    right
    have h : exec_ld_a_atHLInc s = .next t := h
    obtain ⟨v, -, rfl⟩ := loadAStep_next.1 h
    exact C.trans (C.setReg _ _ _) (C.setPair _ _ _)
  | cpl =>
    right
    have h : exec_cpl s = .next t := h
    cases h
    exact C.trans (C.setReg _ _ _) (C.flags _ _)
  | ld_atHLDec_a =>
    right
    have h : exec_ld_atHLDec_a s = .next t := h
    obtain ⟨v, h1, rfl⟩ := storeAStep_next.1 h
    exact C.trans (C.write h1) (C.setPair _ _ _)
  | ld_atHL_n8 n8 =>
    right
    have h : exec_ld_atHL_n8 n8 s = .next t := h
    exact C.write (storeByte_next.1 h)
  | scf =>
    right
    have h : exec_scf s = .next t := h
    cases h
    exact C.flags _ _
  | ld_a_atHLDec =>
    right
    have h : exec_ld_a_atHLDec s = .next t := h
    obtain ⟨v, -, rfl⟩ := loadAStep_next.1 h
    exact C.trans (C.setReg _ _ _) (C.setPair _ _ _)
  | ccf =>
    right
    have h : exec_ccf s = .next t := h
    cases h
    exact C.flags _ _
  | jp_a16 a16 =>
    right
    have h : exec_jp_a16 a16 s = .next t := h
    cases h
    exact C.pc _ _
  | ret =>
    right
    have h : exec_ret s = .next t := h
    obtain ⟨⟨v,u⟩, h1, rfl⟩ := returnFrom_ok.1 (finish_eq_next.1 h)
    exact C.trans (C.ofPop16 h1) (C.pc _ _)
  | call_a16 a16 =>
    right
    have h : exec_call_a16 a16 s = .next t := h
    obtain ⟨u, h1, rfl⟩ := callTo_next.1 h
    exact C.trans (C.ofPush16 h1) (C.pc _ _)
  | ldh_atA8_a a8 =>
    right
    have h : exec_ldh_atA8_a a8 s = .next t := h
    exact C.write (storeByte_next.1 h)
  | ld_atC_a =>
    right
    have h : exec_ld_atC_a s = .next t := h
    exact C.write (storeByte_next.1 h)
  | add_sp_e8 e8 =>
    right
    have h : exec_add_sp_e8 e8 s = .next t := h
    cases h
    exact C.trans (C.sp _ _) (C.flags _ _)
  | jp_atHL =>
    right
    have h : exec_jp_atHL s = .next t := h
    cases h
    exact C.pc _ _
  | ld_atA16_a a16 =>
    right
    have h : exec_ld_atA16_a a16 s = .next t := h
    exact C.write (storeByte_next.1 h)
  | ldh_a_atA8 a8 =>
    right
    have h : exec_ldh_a_atA8 a8 s = .next t := h
    obtain ⟨v, -, rfl⟩ := loadReg_next.1 h
    exact C.setReg _ _ _
  | ld_a_atC =>
    right
    have h : exec_ld_a_atC s = .next t := h
    obtain ⟨v, -, rfl⟩ := loadReg_next.1 h
    exact C.setReg _ _ _
  | ld_hl_spE8 e8 =>
    right
    have h : exec_ld_hl_spE8 e8 s = .next t := h
    cases h
    exact C.trans (C.setPair _ _ _) (C.flags _ _)
  | ld_sp_hl =>
    right
    have h : exec_ld_sp_hl s = .next t := h
    cases h
    exact C.sp _ _
  | ld_a_atA16 a16 =>
    right
    have h : exec_ld_a_atA16 a16 s = .next t := h
    obtain ⟨v, -, rfl⟩ := loadReg_next.1 h
    exact C.setReg _ _ _
  | ldRegReg dst r =>
    right
    rw [exec_ldRegReg] at h
    cases h
    exact C.setReg _ _ _
  | ldRegImm dst n8 =>
    right
    rw [exec_ldRegImm] at h
    cases h
    exact C.setReg _ _ _
  | ldRegAtHL dst =>
    right
    rw [exec_ldRegAtHL] at h
    obtain ⟨v, -, rfl⟩ := loadReg_next.1 h
    exact C.setReg _ _ _
  | ldAtHLReg r =>
    right
    rw [exec_ldAtHLReg] at h
    exact C.write (storeByte_next.1 h)
  | ldReg16Imm p n16 =>
    right
    rw [exec_ldReg16Imm] at h
    cases h
    exact C.ofSetReg16 _ _ _
  | incReg16 p =>
    right
    rw [exec_incReg16] at h
    cases h
    exact C.ofSetReg16 _ _ _
  | decReg16 p =>
    right
    rw [exec_decReg16] at h
    cases h
    exact C.ofSetReg16 _ _ _
  | addHL p =>
    right
    rw [exec_addHL] at h
    cases h
    exact C.trans (C.setPair _ _ _) (C.flags _ _)
  | push q =>
    right
    rw [exec_push] at h
    exact C.ofPush16 (pushPair_next.1 h)
  | pop q =>
    right
    rw [exec_pop] at h
    obtain ⟨⟨v,u⟩, h1, rfl⟩ := popPair_next.1 h
    exact C.trans (C.ofPop16 h1) (C.setPair _ _ _)
  | inc8 o =>
    right
    rw [exec_inc8] at h
    obtain ⟨_, -, _, h2, rfl⟩ := incOpnd_next.1 h
    exact C.trans (C.ofWriteOpnd h2) (C.flags _ _)
  | dec8 o =>
    right
    rw [exec_dec8] at h
    obtain ⟨_, -, _, h2, rfl⟩ := decOpnd_next.1 h
    exact C.trans (C.ofWriteOpnd h2) (C.flags _ _)
  | alu op o =>
    right
    rw [exec_alu] at h
    obtain ⟨_, -, rfl⟩ := aluOpnd_next.1 h
    exact C.ofAluA _ _ _
  | aluImm op n8 =>
    right
    rw [exec_aluImm] at h
    cases h
    exact C.ofAluA _ _ _
  | jpCond cc a16 =>
    right
    rw [exec_jpCond] at h
    unfold jumpIf at h
    split at h
    · cases h
      exact C.pc _ _
    · cases h
      exact C.refl _
  | jrCond cc e8 =>
    right
    rw [exec_jrCond] at h
    unfold jumpIf at h
    split at h
    · cases h
      exact C.pc _ _
    · cases h
      exact C.refl _
  | callCond cc a16 =>
    right
    rw [exec_callCond] at h
    unfold callIf at h
    split at h
    · obtain ⟨u, h1, rfl⟩ := callTo_next.1 h
      exact C.trans (C.ofPush16 h1) (C.pc _ _)
    · cases h
      exact C.refl _
  | retCond cc =>
    right
    rw [exec_retCond] at h
    unfold returnIf at h
    split at h
    · obtain ⟨⟨v, u⟩, h1, rfl⟩ := returnFrom_ok.1 (finish_eq_next.1 h)
      exact C.trans (C.ofPop16 h1) (C.pc _ _)
    · cases h
      exact C.refl _
  | rst y =>
    right
    rw [exec_rst] at h
    obtain ⟨u, h1, rfl⟩ := callTo_next.1 h
    exact C.trans (C.ofPush16 h1) (C.pc _ _)

/-- The same for every instruction, for a relation that the writes of IME and of the mode are in too. -/
theorem exec_rel_all (C : Updates R) (hime : ∀ s b, R s { s with ime := b })
    (hmode : ∀ s m, R s { s with mode := m }) {i : Instr} {s t : State} (h : exec i s = .next t) : R s t := by
  rcases exec_rel C h with (rfl | ⟨n, rfl⟩ | rfl | rfl | rfl) | h'
  · cases h
    exact hmode _ _
  · cases h
    exact hmode _ _
  · cases h
    exact hime _ _
  · cases h
    exact hime _ _
  · have h : finish (returnFrom s >>= fun s₁ => pure { s₁ with ime := true }) = .next t := h
    rw [finish_bind] at h
    obtain ⟨u, h1, h2⟩ := h
    obtain ⟨⟨v, w⟩, h3, rfl⟩ := returnFrom_ok.1 h1
    cases h2
    exact C.trans (C.trans (C.ofPop16 h3) (C.pc w v)) (hime _ _)
  · exact h'

/-- The same for a step. -/
theorem step_rel (C : Updates R) (hime : ∀ s b, R s { s with ime := b })
    (hmode : ∀ s m, R s { s with mode := m }) {s t : State} (h : step s = .next t) : R s t := by
  rcases step_next h with ⟨-, rfl⟩ | ⟨-, i, s₁, hf, he⟩
  · exact C.refl _
  · obtain ⟨_, _, _, -, -, h3⟩ := fetchInstr_ok hf
    have h4 : R s s₁ := by
      rw [h3]
      exact C.pc _ _
    exact C.trans h4 (exec_rel_all C hime hmode he)

end Sys2Proof.Machine
end

