-- ==== Sys2Proof/Tests/Slice0.lean ====
section
/-! SUPPORT. The tests: the checks of WellFormed, the decoding of every word of the two maps, one step of each
kind of instruction on a small state, and for every statement with hypotheses a state that meets them. Expected
results are the examples of the rules (41_load8.md to 47_system.md) and the maps R76 and R77, or are worked out from
them by hand. -/

namespace Sys2Proof.Tests

open Sys2Proof.Machine Sys2Proof.Spec

/-! ## Helpers -/

/-- The next state of a result, if it is one. -/
def nextOf (r : Result) : Option State :=
  match r with
  | .next s => some s
  | .fault _ | .refused _ => none

/-- The fault of a result, if it is one. -/
def faultOf (r : Result) : Option Fault :=
  match r with
  | .fault e => some e
  | .next _ | .refused _ => none

/-- A small state: zero registers but A = 0x01, SP = 0xFFFE, PC = 0x0100, no byte listed, CB map enabled. -/
def base : State :=
  State.launch
    { initF := 0#8, initB := 0#8, initC := 0#8, initD := 0#8, initE := 0#8, initH := 0#8, initL := 0#8
      initSp := 0xFFFE#16, initMem := [], initIe := 0#8
      cfg := { rom := [], romLen := 0x8000, cbEnabled := true, andSetsH := false } }

/-- A state with bytes in ROM at 0x0100. -/
def withCode (s : State) (bytes : List Byte) : State := plantBytes s 0x0100#16 bytes

/-- The next state of one step with these bytes at 0x0100. -/
def run (s : State) (bytes : List Byte) : Option State := nextOf (step (withCode s bytes))

/-- The fault of one step with these bytes at 0x0100. -/
def runFault (s : State) (bytes : List Byte) : Option Fault := faultOf (step (withCode s bytes))

/-- What the decoder reads from an opcode followed by 0x34 and 0x12. -/
def reads (cb : Bool) (bytes : List Byte) : Option Instr :=
  match decode cb bytes with
  | .ok (i, _) => some i
  | .error _ => none

/-- One row of the base map: the opcodes `16 * hi` to `16 * hi + 15` (R76). -/
def mapRow (cb : Bool) (hi : Nat) : List (Option Instr) :=
  (List.range 16).map fun lo => reads cb [BitVec.ofNat 8 (16 * hi + lo), 0x34#8, 0x12#8]

/-- One row of the CB map (R77). -/
def cbRow (hi : Nat) : List (Option Instr) :=
  (List.range 16).map fun lo => reads true [0xCB#8, BitVec.ofNat 8 (16 * hi + lo)]

/-! ## WellFormed: an ill-formed term for each check -/

/-- A CB instruction is ill-formed when `CB_ENABLED` is false (R77). -/
theorem test_wf_cb_needs_enabled :
    (Instr.swap_a.wf false = false ∧ Instr.bit_7_h.wf false = false) ∧ Instr.bit_7_h.wf true = true := by decide

/-- The 0xCB byte alone is no instruction when `CB_ENABLED` is true (R80). -/
theorem test_wf_cb_byte_alone : Instr.prefix_cb.wf true = false ∧ Instr.prefix_cb.wf false = true := by decide

/-! ## Decoding: the base map, row by row of R76 -/

theorem test_decode_row_0x :
    mapRow false 0x0 =
      [some .nop, some (.ld_bc_n16 0x1234#16), some .ld_atBC_a, some .inc_bc, some .inc_b, some .dec_b,
       some (.ld_b_n8 0x34#8), some .rlca, some (.ld_atA16_sp 0x1234#16), some .add_hl_bc, some .ld_a_atBC,
       some .dec_bc, some .inc_c, some .dec_c, some (.ld_c_n8 0x34#8), some .rrca] := by
  decide

theorem test_decode_row_1x :
    mapRow false 0x1 =
      [some (.stop 0x34#8), some (.ld_de_n16 0x1234#16), some .ld_atDE_a, some .inc_de, some .inc_d,
       some .dec_d, some (.ld_d_n8 0x34#8), some .rla, some (.jr_e8 0x34#8), some .add_hl_de,
       some .ld_a_atDE, some .dec_de, some .inc_e, some .dec_e, some (.ld_e_n8 0x34#8), some .rra] := by
  decide

theorem test_decode_row_2x :
    mapRow false 0x2 =
      [some (.jr_nz_e8 0x34#8), some (.ld_hl_n16 0x1234#16), some .ld_atHLInc_a, some .inc_hl, some .inc_h,
       some .dec_h, some (.ld_h_n8 0x34#8), some .daa, some (.jr_z_e8 0x34#8), some .add_hl_hl,
       some .ld_a_atHLInc, some .dec_hl, some .inc_l, some .dec_l, some (.ld_l_n8 0x34#8), some .cpl] := by
  decide

theorem test_decode_row_3x :
    mapRow false 0x3 =
      [some (.jr_nc_e8 0x34#8), some (.ld_sp_n16 0x1234#16), some .ld_atHLDec_a, some .inc_sp,
       some .inc_atHL, some .dec_atHL, some (.ld_atHL_n8 0x34#8), some .scf, some (.jr_c_e8 0x34#8),
       some .add_hl_sp, some .ld_a_atHLDec, some .dec_sp, some .inc_a, some .dec_a, some (.ld_a_n8 0x34#8),
       some .ccf] := by
  decide

theorem test_decode_row_4x :
    mapRow false 0x4 =
      [some .ld_b_b, some .ld_b_c, some .ld_b_d, some .ld_b_e, some .ld_b_h, some .ld_b_l, some .ld_b_atHL,
       some .ld_b_a, some .ld_c_b, some .ld_c_c, some .ld_c_d, some .ld_c_e, some .ld_c_h, some .ld_c_l,
       some .ld_c_atHL, some .ld_c_a] := by
  decide

theorem test_decode_row_5x :
    mapRow false 0x5 =
      [some .ld_d_b, some .ld_d_c, some .ld_d_d, some .ld_d_e, some .ld_d_h, some .ld_d_l, some .ld_d_atHL,
       some .ld_d_a, some .ld_e_b, some .ld_e_c, some .ld_e_d, some .ld_e_e, some .ld_e_h, some .ld_e_l,
       some .ld_e_atHL, some .ld_e_a] := by
  decide

theorem test_decode_row_6x :
    mapRow false 0x6 =
      [some .ld_h_b, some .ld_h_c, some .ld_h_d, some .ld_h_e, some .ld_h_h, some .ld_h_l, some .ld_h_atHL,
       some .ld_h_a, some .ld_l_b, some .ld_l_c, some .ld_l_d, some .ld_l_e, some .ld_l_h, some .ld_l_l,
       some .ld_l_atHL, some .ld_l_a] := by
  decide

theorem test_decode_row_7x :
    mapRow false 0x7 =
      [some .ld_atHL_b, some .ld_atHL_c, some .ld_atHL_d, some .ld_atHL_e, some .ld_atHL_h, some .ld_atHL_l,
       some .halt, some .ld_atHL_a, some .ld_a_b, some .ld_a_c, some .ld_a_d, some .ld_a_e, some .ld_a_h,
       some .ld_a_l, some .ld_a_atHL, some .ld_a_a] := by
  decide

theorem test_decode_row_8x :
    mapRow false 0x8 =
      [some .add_a_b, some .add_a_c, some .add_a_d, some .add_a_e, some .add_a_h, some .add_a_l,
       some .add_a_atHL, some .add_a_a, some .adc_a_b, some .adc_a_c, some .adc_a_d, some .adc_a_e,
       some .adc_a_h, some .adc_a_l, some .adc_a_atHL, some .adc_a_a] := by
  decide

theorem test_decode_row_9x :
    mapRow false 0x9 =
      [some .sub_b, some .sub_c, some .sub_d, some .sub_e, some .sub_h, some .sub_l, some .sub_atHL,
       some .sub_a, some .sbc_a_b, some .sbc_a_c, some .sbc_a_d, some .sbc_a_e, some .sbc_a_h,
       some .sbc_a_l, some .sbc_a_atHL, some .sbc_a_a] := by
  decide

theorem test_decode_row_ax :
    mapRow false 0xA =
      [some .and_b, some .and_c, some .and_d, some .and_e, some .and_h, some .and_l, some .and_atHL,
       some .and_a, some .xor_b, some .xor_c, some .xor_d, some .xor_e, some .xor_h, some .xor_l,
       some .xor_atHL, some .xor_a] := by
  decide

theorem test_decode_row_bx :
    mapRow false 0xB =
      [some .or_b, some .or_c, some .or_d, some .or_e, some .or_h, some .or_l, some .or_atHL, some .or_a,
       some .cp_b, some .cp_c, some .cp_d, some .cp_e, some .cp_h, some .cp_l, some .cp_atHL, some .cp_a] := by
  decide

theorem test_decode_row_cx :
    mapRow false 0xC =
      [some .ret_nz, some .pop_bc, some (.jp_nz_a16 0x1234#16), some (.jp_a16 0x1234#16),
       some (.call_nz_a16 0x1234#16), some .push_bc, some (.add_a_n8 0x34#8), some .rst_00h, some .ret_z,
       some .ret, some (.jp_z_a16 0x1234#16), some .prefix_cb, some (.call_z_a16 0x1234#16),
       some (.call_a16 0x1234#16), some (.adc_a_n8 0x34#8), some .rst_08h] := by
  decide

theorem test_decode_row_dx :
    mapRow false 0xD =
      [some .ret_nc, some .pop_de, some (.jp_nc_a16 0x1234#16), some .undefined_d3,
       some (.call_nc_a16 0x1234#16), some .push_de, some (.sub_n8 0x34#8), some .rst_10h, some .ret_c,
       some .reti, some (.jp_c_a16 0x1234#16), some .undefined_db, some (.call_c_a16 0x1234#16),
       some .undefined_dd, some (.sbc_a_n8 0x34#8), some .rst_18h] := by
  decide

theorem test_decode_row_ex :
    mapRow false 0xE =
      [some (.ldh_atA8_a 0x34#8), some .pop_hl, some .ld_atC_a, some .undefined_e3, some .undefined_e4,
       some .push_hl, some (.and_n8 0x34#8), some .rst_20h, some (.add_sp_e8 0x34#8), some .jp_atHL,
       some (.ld_atA16_a 0x1234#16), some .undefined_eb, some .undefined_ec, some .undefined_ed,
       some (.xor_n8 0x34#8), some .rst_28h] := by
  decide

theorem test_decode_row_fx :
    mapRow false 0xF =
      [some (.ldh_a_atA8 0x34#8), some .pop_af, some .ld_a_atC, some .di, some .undefined_f4, some .push_af,
       some (.or_n8 0x34#8), some .rst_30h, some (.ld_hl_spE8 0x34#8), some .ld_sp_hl,
       some (.ld_a_atA16 0x1234#16), some .ei, some .undefined_fc, some .undefined_fd,
       some (.cp_n8 0x34#8), some .rst_38h] := by
  decide

/-! ## Decoding: the CB map, row by row of R77 -/

theorem test_decode_cb_row_0x :
    cbRow 0x0 =
      [some .rlc_b, some .rlc_c, some .rlc_d, some .rlc_e, some .rlc_h, some .rlc_l, some .rlc_atHL,
       some .rlc_a, some .rrc_b, some .rrc_c, some .rrc_d, some .rrc_e, some .rrc_h, some .rrc_l,
       some .rrc_atHL, some .rrc_a] := by
  decide

theorem test_decode_cb_row_1x :
    cbRow 0x1 =
      [some .rl_b, some .rl_c, some .rl_d, some .rl_e, some .rl_h, some .rl_l, some .rl_atHL, some .rl_a,
       some .rr_b, some .rr_c, some .rr_d, some .rr_e, some .rr_h, some .rr_l, some .rr_atHL, some .rr_a] := by
  decide

theorem test_decode_cb_row_2x :
    cbRow 0x2 =
      [some .sla_b, some .sla_c, some .sla_d, some .sla_e, some .sla_h, some .sla_l, some .sla_atHL,
       some .sla_a, some .sra_b, some .sra_c, some .sra_d, some .sra_e, some .sra_h, some .sra_l,
       some .sra_atHL, some .sra_a] := by
  decide

theorem test_decode_cb_row_3x :
    cbRow 0x3 =
      [some .swap_b, some .swap_c, some .swap_d, some .swap_e, some .swap_h, some .swap_l, some .swap_atHL,
       some .swap_a, some .srl_b, some .srl_c, some .srl_d, some .srl_e, some .srl_h, some .srl_l,
       some .srl_atHL, some .srl_a] := by
  decide

theorem test_decode_cb_row_4x :
    cbRow 0x4 =
      [some .bit_0_b, some .bit_0_c, some .bit_0_d, some .bit_0_e, some .bit_0_h, some .bit_0_l,
       some .bit_0_atHL, some .bit_0_a, some .bit_1_b, some .bit_1_c, some .bit_1_d, some .bit_1_e,
       some .bit_1_h, some .bit_1_l, some .bit_1_atHL, some .bit_1_a] := by
  decide

theorem test_decode_cb_row_5x :
    cbRow 0x5 =
      [some .bit_2_b, some .bit_2_c, some .bit_2_d, some .bit_2_e, some .bit_2_h, some .bit_2_l,
       some .bit_2_atHL, some .bit_2_a, some .bit_3_b, some .bit_3_c, some .bit_3_d, some .bit_3_e,
       some .bit_3_h, some .bit_3_l, some .bit_3_atHL, some .bit_3_a] := by
  decide

theorem test_decode_cb_row_6x :
    cbRow 0x6 =
      [some .bit_4_b, some .bit_4_c, some .bit_4_d, some .bit_4_e, some .bit_4_h, some .bit_4_l,
       some .bit_4_atHL, some .bit_4_a, some .bit_5_b, some .bit_5_c, some .bit_5_d, some .bit_5_e,
       some .bit_5_h, some .bit_5_l, some .bit_5_atHL, some .bit_5_a] := by
  decide

theorem test_decode_cb_row_7x :
    cbRow 0x7 =
      [some .bit_6_b, some .bit_6_c, some .bit_6_d, some .bit_6_e, some .bit_6_h, some .bit_6_l,
       some .bit_6_atHL, some .bit_6_a, some .bit_7_b, some .bit_7_c, some .bit_7_d, some .bit_7_e,
       some .bit_7_h, some .bit_7_l, some .bit_7_atHL, some .bit_7_a] := by
  decide

theorem test_decode_cb_row_8x :
    cbRow 0x8 =
      [some .res_0_b, some .res_0_c, some .res_0_d, some .res_0_e, some .res_0_h, some .res_0_l,
       some .res_0_atHL, some .res_0_a, some .res_1_b, some .res_1_c, some .res_1_d, some .res_1_e,
       some .res_1_h, some .res_1_l, some .res_1_atHL, some .res_1_a] := by
  decide

theorem test_decode_cb_row_9x :
    cbRow 0x9 =
      [some .res_2_b, some .res_2_c, some .res_2_d, some .res_2_e, some .res_2_h, some .res_2_l,
       some .res_2_atHL, some .res_2_a, some .res_3_b, some .res_3_c, some .res_3_d, some .res_3_e,
       some .res_3_h, some .res_3_l, some .res_3_atHL, some .res_3_a] := by
  decide

theorem test_decode_cb_row_ax :
    cbRow 0xA =
      [some .res_4_b, some .res_4_c, some .res_4_d, some .res_4_e, some .res_4_h, some .res_4_l,
       some .res_4_atHL, some .res_4_a, some .res_5_b, some .res_5_c, some .res_5_d, some .res_5_e,
       some .res_5_h, some .res_5_l, some .res_5_atHL, some .res_5_a] := by
  decide

theorem test_decode_cb_row_bx :
    cbRow 0xB =
      [some .res_6_b, some .res_6_c, some .res_6_d, some .res_6_e, some .res_6_h, some .res_6_l,
       some .res_6_atHL, some .res_6_a, some .res_7_b, some .res_7_c, some .res_7_d, some .res_7_e,
       some .res_7_h, some .res_7_l, some .res_7_atHL, some .res_7_a] := by
  decide

theorem test_decode_cb_row_cx :
    cbRow 0xC =
      [some .set_0_b, some .set_0_c, some .set_0_d, some .set_0_e, some .set_0_h, some .set_0_l,
       some .set_0_atHL, some .set_0_a, some .set_1_b, some .set_1_c, some .set_1_d, some .set_1_e,
       some .set_1_h, some .set_1_l, some .set_1_atHL, some .set_1_a] := by
  decide

theorem test_decode_cb_row_dx :
    cbRow 0xD =
      [some .set_2_b, some .set_2_c, some .set_2_d, some .set_2_e, some .set_2_h, some .set_2_l,
       some .set_2_atHL, some .set_2_a, some .set_3_b, some .set_3_c, some .set_3_d, some .set_3_e,
       some .set_3_h, some .set_3_l, some .set_3_atHL, some .set_3_a] := by
  decide

theorem test_decode_cb_row_ex :
    cbRow 0xE =
      [some .set_4_b, some .set_4_c, some .set_4_d, some .set_4_e, some .set_4_h, some .set_4_l,
       some .set_4_atHL, some .set_4_a, some .set_5_b, some .set_5_c, some .set_5_d, some .set_5_e,
       some .set_5_h, some .set_5_l, some .set_5_atHL, some .set_5_a] := by
  decide

theorem test_decode_cb_row_fx :
    cbRow 0xF =
      [some .set_6_b, some .set_6_c, some .set_6_d, some .set_6_e, some .set_6_h, some .set_6_l,
       some .set_6_atHL, some .set_6_a, some .set_7_b, some .set_7_c, some .set_7_d, some .set_7_e,
       some .set_7_h, some .set_7_l, some .set_7_atHL, some .set_7_a] := by
  decide

/-! ## Decoding, bit by bit from the fields of R62: one word or more of each family -/

theorem test_word_ld_r_r : reads true [0b01000001#8] = some .ld_b_c := by decide
theorem test_word_ld_r_n8 : reads true [0b00111110#8, 0x7F#8] = some (.ld_a_n8 0x7F#8) := by decide
theorem test_word_ld_r_atHL : reads true [0b01111110#8] = some .ld_a_atHL := by decide
theorem test_word_ld_atHL_r : reads true [0b01110001#8] = some .ld_atHL_c := by decide
theorem test_word_ld_pp_n16 : reads true [0b00100001#8, 0x00#8, 0xC0#8] = some (.ld_hl_n16 0xC000#16) := by decide
theorem test_word_inc_dec_pp :
    reads true [0b00110011#8] = some .inc_sp ∧ reads true [0b00011011#8] = some .dec_de := by decide
theorem test_word_add_hl_pp : reads true [0b00001001#8] = some .add_hl_bc := by decide
theorem test_word_inc_dec_r :
    reads true [0b00111100#8] = some .inc_a ∧ reads true [0b00110101#8] = some .dec_atHL := by decide
theorem test_word_alu_r : reads true [0b10001111#8] = some .adc_a_a := by decide
theorem test_word_alu_n8 : reads true [0b11011110#8, 0x2A#8] = some (.sbc_a_n8 0x2A#8) := by decide
theorem test_word_push_pop :
    reads true [0b11110101#8] = some .push_af ∧ reads true [0b11010001#8] = some .pop_de := by decide
theorem test_word_jr_cc : reads true [0b00111000#8, 0x10#8] = some (.jr_c_e8 0x10#8) := by decide
theorem test_word_jp_cc : reads true [0b11000010#8, 0x34#8, 0x12#8] = some (.jp_nz_a16 0x1234#16) := by decide
theorem test_word_call_cc : reads true [0b11010100#8, 0x34#8, 0x12#8] = some (.call_nc_a16 0x1234#16) := by decide
theorem test_word_ret_cc : reads true [0b11001000#8] = some .ret_z := by decide
theorem test_word_rst : reads true [0b11101111#8] = some .rst_28h := by decide
theorem test_word_cb_rot : reads true [0xCB#8, 0b00110111#8] = some .swap_a := by decide
theorem test_word_cb_bit : reads true [0xCB#8, 0b01111100#8] = some .bit_7_h := by decide
theorem test_word_cb_res : reads true [0xCB#8, 0b10011111#8] = some .res_3_a := by decide
theorem test_word_cb_set : reads true [0xCB#8, 0b11111110#8] = some .set_7_atHL := by decide

/-- A list that ends before the instruction does is refused by name. -/
theorem test_decode_truncated :
    decode true [] = .error .noOpcode ∧ decode true [0xC3#8, 0x00#8] = .error (.truncated 0xC3#8) := ⟨rfl, rfl⟩

/-- A word of opcode_table.json, base row and CB row. -/
theorem test_table_word :
    decodeTableWord 8 0x41 = some .ld_b_c ∧ decodeTableWord 8 0xCB = some .prefix_cb ∧
      decodeTableWord 16 0xCB7C = some .bit_7_h := by decide

/-! ## One step of each kind of instruction: the examples of the rules -/

/-- R95. -/
theorem test_ld_b_c :
    (run { base with b := 0x12#8, c := 0x34#8 }
      [0x41#8]).map (fun t => (t.b, t.c, t.pc)) =
      some (0x34#8, 0x34#8, 0x0101#16) := by
  decide

/-- R96. -/
theorem test_ld_a_n8 :
    (run base
      [0x3E#8, 0x7F#8]).map (fun t => (t.a, t.pc)) =
      some (0x7F#8, 0x0102#16) := by
  decide

/-- R97. -/
theorem test_ld_b_atHL :
    (run { base with h := 0xC0#8, mem := [(0xC000, 0x5A#8)] }
      [0x46#8]).map (fun t => t.b) =
      some 0x5A#8 := by
  decide

/-- R98. -/
theorem test_ld_atHL_a :
    (run { base with h := 0xFF#8, l := 0x80#8, a := 0x99#8 }
      [0x77#8]).map (fun t => Memory.read t.mem 0xFF80) =
      some 0x99#8 := by
  decide

/-- R99: writing the byte that an unlisted address reads as removes the cell. -/
theorem test_ld_atHL_n8 :
    (run { base with h := 0xC0#8, l := 0x10#8, mem := [(0xC010, 0x77#8)] }
      [0x36#8, 0x00#8]).map (fun t => t.mem) =
      some ([] : Memory) := by
  decide

/-- R100. -/
theorem test_ld_atHLInc_a :
    (run { base with h := 0xC0#8, l := 0xFF#8, a := 0x01#8 }
      [0x22#8]).map (fun t => (Memory.read t.mem 0xC0FF, t.h, t.l)) =
      some (0x01#8, 0xC1#8, 0x00#8) := by
  decide

/-- R101. -/
theorem test_ld_a_atHLInc :
    (run { base with h := 0xFF#8, l := 0x80#8, mem := [(0xFF80, 0x42#8)] }
      [0x2A#8]).map (fun t => (t.a, t.h, t.l)) =
      some (0x42#8, 0xFF#8, 0x81#8) := by
  decide

/-- R102. -/
theorem test_ld_atHLDec_a :
    (run { base with h := 0xDF#8, l := 0xFF#8, a := 0x07#8 }
      [0x32#8]).map (fun t => (Memory.read t.mem 0xDFFF, t.h, t.l)) =
      some (0x07#8, 0xDF#8, 0xFE#8) := by
  decide

/-- R103: echo reads 0. -/
theorem test_ld_a_atHLDec :
    (run { base with h := 0xE0#8, l := 0x00#8 }
      [0x3A#8]).map (fun t => (t.a, t.h, t.l)) =
      some (0x00#8, 0xDF#8, 0xFF#8) := by
  decide

/-- R105. -/
theorem test_ld_a_atDE :
    (run { base with d := 0xFF#8, e := 0xFF#8, ie := 0x1F#8 }
      [0x1A#8]).map (fun t => t.a) =
      some 0x1F#8 := by
  decide

/-- R104: the instruction itself is what BC points at. -/
theorem test_ld_a_atBC :
    (run { base with b := 0x01#8, c := 0x00#8 }
      [0x0A#8]).map (fun t => t.a) =
      some 0x0A#8 := by
  decide

/-- R106. -/
theorem test_ld_atBC_a :
    (run { base with b := 0xA0#8, a := 0x55#8 }
      [0x02#8]).map (fun t => Memory.read t.mem 0xA000) =
      some 0x55#8 := by
  decide

/-- R107. -/
theorem test_ld_atDE_a :
    (run { base with d := 0xC1#8, e := 0x23#8, a := 0xAB#8 }
      [0x12#8]).map (fun t => Memory.read t.mem 0xC123) =
      some 0xAB#8 := by
  decide

/-- R108. -/
theorem test_ld_a_atA16 :
    (run { base with mem := [(0xC000, 0x3C#8)] }
      [0xFA#8, 0x00#8, 0xC0#8]).map (fun t => t.a) =
      some 0x3C#8 := by
  decide

/-- R109. -/
theorem test_ld_atA16_a :
    (run base
      [0xEA#8, 0xFF#8, 0xFF#8]).map (fun t => (t.ie, t.mem)) =
      some (0x01#8, ([] : Memory)) := by
  decide

/-- R110. -/
theorem test_ldh_a_atA8 :
    (run { base with mem := [(0xFF85, 0x77#8)] }
      [0xF0#8, 0x85#8]).map (fun t => t.a) =
      some 0x77#8 := by
  decide

/-- R111. -/
theorem test_ldh_atA8_a :
    (run { base with a := 0x12#8 }
      [0xE0#8, 0x80#8]).map (fun t => Memory.read t.mem 0xFF80) =
      some 0x12#8 := by
  decide

/-- R112. -/
theorem test_ld_a_atC :
    (run { base with c := 0x81#8, mem := [(0xFF81, 0x09#8)] }
      [0xF2#8]).map (fun t => t.a) =
      some 0x09#8 := by
  decide

/-- R113. -/
theorem test_ld_atC_a :
    (run { base with c := 0xFE#8, a := 0x03#8 }
      [0xE2#8]).map (fun t => Memory.read t.mem 0xFFFE) =
      some 0x03#8 := by
  decide

/-- R114. -/
theorem test_ld_hl_n16 :
    (run base
      [0x21#8, 0x00#8, 0xC0#8]).map (fun t => (t.h, t.l)) =
      some (0xC0#8, 0x00#8) := by
  decide

/-- R115. -/
theorem test_ld_sp_hl :
    (run { base with h := 0xDF#8, l := 0xF0#8 }
      [0xF9#8]).map (fun t => t.sp) =
      some 0xDFF0#16 := by
  decide

/-- R116. -/
theorem test_ld_atA16_sp :
    (run { base with sp := 0xFFF8#16 }
      [0x08#8, 0x00#8, 0xC1#8]).map (fun t => (Memory.read t.mem 0xC100, Memory.read t.mem 0xC101)) =
      some (0xF8#8, 0xFF#8) := by
  decide

/-- R117: the corner with a negative offset. -/
theorem test_ld_hl_spE8 :
    (run { base with sp := 0x0005#16 }
      [0xF8#8, 0xFF#8]).map (fun t => (t.h, t.l, t.f)) =
      some (0x00#8, 0x04#8, 0x30#8) := by
  decide

/-- R118. -/
theorem test_push_bc :
    (run { base with b := 0x12#8, c := 0x34#8 }
      [0xC5#8]).map (fun t => (Memory.read t.mem 0xFFFD, Memory.read t.mem 0xFFFC, t.sp)) =
      some (0x12#8, 0x34#8, 0xFFFC#16) := by
  decide

/-- R119. -/
theorem test_pop_de :
    (run { base with sp := 0xFFFC#16, mem := [(0xFFFC, 0x34#8), (0xFFFD, 0x12#8)] }
      [0xD1#8]).map (fun t => (t.d, t.e, t.sp)) =
      some (0x12#8, 0x34#8, 0xFFFE#16) := by
  decide

/-- R120. -/
theorem test_pop_af :
    (run { base with sp := 0xFFFC#16, mem := [(0xFFFC, 0xFF#8), (0xFFFD, 0x12#8)] }
      [0xF1#8]).map (fun t => (t.a, t.f)) =
      some (0x12#8, 0xF0#8) := by
  decide

/-- R123. -/
theorem test_add_a_n8 :
    (run { base with a := 0xFF#8 }
      [0xC6#8, 0x01#8]).map (fun t => (t.a, t.f)) =
      some (0x00#8, 0xB0#8) := by
  decide

/-- R124. -/
theorem test_adc_a_a :
    (run { base with a := 0x88#8, f := 0x10#8 }
      [0x8F#8]).map (fun t => (t.a, t.f)) =
      some (0x11#8, 0x30#8) := by
  decide

/-- R125. -/
theorem test_sub_n8 :
    (run { base with a := 0x10#8 }
      [0xD6#8, 0x01#8]).map (fun t => (t.a, t.f)) =
      some (0x0F#8, 0x60#8) := by
  decide

/-- R126. -/
theorem test_sbc_a_n8 :
    (run { base with a := 0x3B#8, f := 0x10#8 }
      [0xDE#8, 0x2A#8]).map (fun t => (t.a, t.f)) =
      some (0x10#8, 0x40#8) := by
  decide

/-- R126: the corner with b = 0xFF and a carry-in. -/
theorem test_sbc_a_n8_borrow :
    (run { base with a := 0x00#8, f := 0x10#8 }
      [0xDE#8, 0xFF#8]).map (fun t => (t.a, t.f)) =
      some (0x00#8, 0xF0#8) := by
  decide

/-- R127. -/
theorem test_and_n8 :
    (run { base with a := 0xAA#8 }
      [0xE6#8, 0x55#8]).map (fun t => (t.a, t.f)) =
      some (0x00#8, 0x80#8) := by
  decide

/-- R127 with `AND_SETS_H` true. -/
theorem test_and_n8_sets_h :
    (run { base with a := 0xAA#8, cfg := { base.cfg with andSetsH := true } }
      [0xE6#8, 0x55#8]).map (fun t => (t.a, t.f)) =
      some (0x00#8, 0xA0#8) := by
  decide

/-- R128. -/
theorem test_xor_n8 :
    (run { base with a := 0x0F#8 }
      [0xEE#8, 0xFF#8]).map (fun t => (t.a, t.f)) =
      some (0xF0#8, 0x00#8) := by
  decide

/-- R129. -/
theorem test_or_n8 :
    (run { base with a := 0x5A#8 }
      [0xF6#8, 0x03#8]).map (fun t => (t.a, t.f)) =
      some (0x5B#8, 0x00#8) := by
  decide

/-- R130. -/
theorem test_cp_n8 :
    (run { base with a := 0x3C#8 }
      [0xFE#8, 0x40#8]).map (fun t => (t.a, t.f)) =
      some (0x3C#8, 0x50#8) := by
  decide

/-- R131. -/
theorem test_inc_a :
    (run { base with a := 0xFF#8, f := 0x10#8 }
      [0x3C#8]).map (fun t => (t.a, t.f)) =
      some (0x00#8, 0xB0#8) := by
  decide

/-- R132. -/
theorem test_inc_atHL :
    (run { base with h := 0xC0#8, f := 0x10#8, mem := [(0xC000, 0xFF#8)] }
      [0x34#8]).map (fun t => (Memory.read t.mem 0xC000, t.f)) =
      some (0x00#8, 0xB0#8) := by
  decide

/-- R133. -/
theorem test_dec_a :
    (run base
      [0x3D#8]).map (fun t => (t.a, t.f)) =
      some (0x00#8, 0xC0#8) := by
  decide

/-- R134. -/
theorem test_dec_atHL :
    (run { base with h := 0xFF#8, l := 0x80#8 }
      [0x35#8]).map (fun t => (Memory.read t.mem 0xFF80, t.f)) =
      some (0xFF#8, 0x60#8) := by
  decide

/-- R135. -/
theorem test_daa_add :
    (run { base with a := 0x41#8, f := 0x20#8 }
      [0x27#8]).map (fun t => (t.a, t.f)) =
      some (0x47#8, 0x00#8) := by
  decide

/-- R135: the corner A = 0xFF with F = 0. -/
theorem test_daa_corner :
    (run { base with a := 0xFF#8 }
      [0x27#8]).map (fun t => (t.a, t.f)) =
      some (0x65#8, 0x10#8) := by
  decide

/-- R136. -/
theorem test_cpl :
    (run { base with a := 0x35#8, f := 0x90#8 }
      [0x2F#8]).map (fun t => (t.a, t.f)) =
      some (0xCA#8, 0xF0#8) := by
  decide

/-- R137. -/
theorem test_scf :
    (run { base with f := 0xE0#8 }
      [0x37#8]).map (fun t => t.f) =
      some 0x90#8 := by
  decide

/-- R138. -/
theorem test_ccf :
    (run { base with f := 0xF0#8 }
      [0x3F#8]).map (fun t => t.f) =
      some 0x80#8 := by
  decide

/-- R140. -/
theorem test_inc_bc :
    (run { base with b := 0xFF#8, c := 0xFF#8, f := 0xF0#8 }
      [0x03#8]).map (fun t => (t.b, t.c, t.f)) =
      some (0x00#8, 0x00#8, 0xF0#8) := by
  decide

/-- R141. -/
theorem test_dec_bc :
    (run { base with f := 0xA0#8 }
      [0x0B#8]).map (fun t => (t.b, t.c, t.f)) =
      some (0xFF#8, 0xFF#8, 0xA0#8) := by
  decide

/-- R142. -/
theorem test_add_hl_bc :
    (run { base with h := 0x0F#8, l := 0xFF#8, c := 0x01#8, f := 0x80#8 }
      [0x09#8]).map (fun t => (t.h, t.l, t.f)) =
      some (0x10#8, 0x00#8, 0xA0#8) := by
  decide

/-- R144. -/
theorem test_add_sp_e8 :
    (run { base with sp := 0x0001#16 }
      [0xE8#8, 0xFF#8]).map (fun t => (t.sp, t.f)) =
      some (0x0000#16, 0x30#8) := by
  decide

/-- R150. -/
theorem test_rlca :
    (run { base with a := 0x85#8 }
      [0x07#8]).map (fun t => (t.a, t.f)) =
      some (0x0B#8, 0x10#8) := by
  decide

/-- R151. -/
theorem test_rrca :
    (run base
      [0x0F#8]).map (fun t => (t.a, t.f)) =
      some (0x80#8, 0x10#8) := by
  decide

/-- R152: Z stays 0 when A becomes 0. -/
theorem test_rla :
    (run { base with a := 0x80#8 }
      [0x17#8]).map (fun t => (t.a, t.f)) =
      some (0x00#8, 0x10#8) := by
  decide

/-- R153. -/
theorem test_rra :
    (run { base with a := 0x81#8, f := 0x10#8 }
      [0x1F#8]).map (fun t => (t.a, t.f)) =
      some (0xC0#8, 0x10#8) := by
  decide

/-- R154. -/
theorem test_rlc_atHL :
    (run { base with h := 0xC0#8, mem := [(0xC000, 0x80#8)] }
      [0xCB#8, 0x06#8]).map (fun t => (Memory.read t.mem 0xC000, t.f)) =
      some (0x01#8, 0x10#8) := by
  decide

/-- R155. -/
theorem test_rrc_c :
    (run { base with c := 0x01#8 }
      [0xCB#8, 0x09#8]).map (fun t => (t.c, t.f)) =
      some (0x80#8, 0x10#8) := by
  decide

/-- R156. -/
theorem test_rl_d :
    (run { base with d := 0x11#8, f := 0x10#8 }
      [0xCB#8, 0x12#8]).map (fun t => (t.d, t.f)) =
      some (0x23#8, 0x00#8) := by
  decide

/-- R157. -/
theorem test_rr_e :
    (run { base with e := 0x8A#8, f := 0x10#8 }
      [0xCB#8, 0x1B#8]).map (fun t => (t.e, t.f)) =
      some (0xC5#8, 0x00#8) := by
  decide

/-- R158. -/
theorem test_sla_h :
    (run { base with h := 0xFF#8 }
      [0xCB#8, 0x24#8]).map (fun t => (t.h, t.f)) =
      some (0xFE#8, 0x10#8) := by
  decide

/-- R159. -/
theorem test_sra_l :
    (run { base with l := 0x8A#8 }
      [0xCB#8, 0x2D#8]).map (fun t => (t.l, t.f)) =
      some (0xC5#8, 0x00#8) := by
  decide

/-- R160. -/
theorem test_swap_a :
    (run { base with a := 0xF0#8, f := 0x10#8 }
      [0xCB#8, 0x37#8]).map (fun t => (t.a, t.f)) =
      some (0x0F#8, 0x00#8) := by
  decide

/-- R161. -/
theorem test_srl_a :
    (run { base with a := 0xFF#8 }
      [0xCB#8, 0x3F#8]).map (fun t => (t.a, t.f)) =
      some (0x7F#8, 0x10#8) := by
  decide

/-- R162. -/
theorem test_bit_7_h :
    (run { base with h := 0x7F#8 }
      [0xCB#8, 0x7C#8]).map (fun t => (t.h, t.f)) =
      some (0x7F#8, 0xA0#8) := by
  decide

/-- R163. -/
theorem test_res_3_a :
    (run { base with a := 0xFF#8, f := 0xF0#8 }
      [0xCB#8, 0x9F#8]).map (fun t => (t.a, t.f)) =
      some (0xF7#8, 0xF0#8) := by
  decide

/-- R164. -/
theorem test_set_7_atHL :
    (run { base with h := 0xC0#8, f := 0x50#8, mem := [(0xC000, 0x01#8)] }
      [0xCB#8, 0xFE#8]).map (fun t => (Memory.read t.mem 0xC000, t.f)) =
      some (0x81#8, 0x50#8) := by
  decide

/-- R165. -/
theorem test_jp_a16 :
    (run base
      [0xC3#8, 0x00#8, 0xC0#8]).map (fun t => t.pc) =
      some 0xC000#16 := by
  decide

/-- R166. -/
theorem test_jp_nz_taken :
    (run base
      [0xC2#8, 0x34#8, 0x12#8]).map (fun t => t.pc) =
      some 0x1234#16 := by
  decide

/-- R166. -/
theorem test_jp_nz_not_taken :
    (run { base with f := 0x80#8 }
      [0xC2#8, 0x34#8, 0x12#8]).map (fun t => t.pc) =
      some 0x0103#16 := by
  decide

/-- R167. -/
theorem test_jp_atHL :
    (run { base with h := 0x12#8, l := 0x34#8 }
      [0xE9#8]).map (fun t => t.pc) =
      some 0x1234#16 := by
  decide

/-- R168: the corner with the offset -128. -/
theorem test_jr_e8 :
    (run base
      [0x18#8, 0x80#8]).map (fun t => t.pc) =
      some 0x0082#16 := by
  decide

/-- R169. -/
theorem test_jr_c_e8 :
    (run { base with f := 0x10#8 }
      [0x38#8, 0x10#8]).map (fun t => t.pc) =
      some 0x0112#16 := by
  decide

/-- R170. -/
theorem test_call_a16 :
    (run base
      [0xCD#8, 0x34#8, 0x12#8]).map (fun t => (Memory.read t.mem 0xFFFD, Memory.read t.mem 0xFFFC, t.sp, t.pc)) =
      some (0x01#8, 0x03#8, 0xFFFC#16, 0x1234#16) := by
  decide

/-- R171. -/
theorem test_call_nc_not_taken :
    (run { base with f := 0x10#8 }
      [0xD4#8, 0x34#8, 0x12#8]).map (fun t => (t.sp, t.pc)) =
      some (0xFFFE#16, 0x0103#16) := by
  decide

/-- R172. -/
theorem test_ret :
    (run { base with sp := 0xFFFC#16, mem := [(0xFFFC, 0x03#8), (0xFFFD, 0x01#8)] }
      [0xC9#8]).map (fun t => (t.sp, t.pc)) =
      some (0xFFFE#16, 0x0103#16) := by
  decide

/-- R173. -/
theorem test_ret_z :
    (run { base with f := 0x80#8, sp := 0xFFFC#16 }
      [0xC8#8]).map (fun t => (t.pc, t.sp)) =
      some (0x0000#16, 0xFFFE#16) := by
  decide

/-- R174. -/
theorem test_reti :
    (run { base with sp := 0xFFFC#16 }
      [0xD9#8]).map (fun t => (t.pc, t.sp, t.ime)) =
      some (0x0000#16, 0xFFFE#16, true) := by
  decide

/-- R175. -/
theorem test_rst_38h :
    (run base
      [0xFF#8]).map (fun t => (Memory.read t.mem 0xFFFD, Memory.read t.mem 0xFFFC, t.sp, t.pc)) =
      some (0x01#8, 0x01#8, 0xFFFC#16, 0x0038#16) := by
  decide

/-- R177. -/
theorem test_halt :
    (run base
      [0x76#8]).map (fun t => (t.mode, t.pc)) =
      some (Mode.halted, 0x0101#16) := by
  decide

/-- R178. -/
theorem test_stop :
    (run base
      [0x10#8, 0x00#8]).map (fun t => (t.mode, t.pc)) =
      some (Mode.stopped, 0x0102#16) := by
  decide

/-- R179. -/
theorem test_di :
    (run { base with ime := true }
      [0xF3#8]).map (fun t => t.ime) =
      some false := by
  decide

/-- R180. -/
theorem test_ei :
    (run base
      [0xFB#8]).map (fun t => t.ime) =
      some true := by
  decide

/-- R176: nothing but PC changes. -/
theorem test_nop : run base [0x00#8] = some { withCode base [0x00#8] with pc := 0x0101#16 } := by decide

/-- R182. -/
theorem test_undefined_d3 : runFault base [0xD3#8] = some (.unimplementedOpcode 0xD3#8 0x0100#16) := by decide

/-- R181 with `CB_ENABLED` false. -/
theorem test_cb_disabled :
    runFault { base with cfg := Config.default } [0xCB#8, 0x00#8] =
      some (.unimplementedOpcode 0xCB#8 0x0100#16) := by decide

/-- R107: VRAM faults. -/
theorem test_vram_store_faults :
    runFault { base with d := 0x80#8 } [0x12#8] = some (.unsupportedAddress 0x8000#16 .write) := by decide

/-- R118: the high byte is written first, so its address is the one reported (R91). -/
theorem test_push_reports_the_high_byte :
    runFault { base with sp := 0x8002#16 } [0xC5#8] = some (.unsupportedAddress 0x8001#16 .write) := by decide

/-- R178: the ignored byte of STOP is fetched, and its fetch faults at `ROM_LEN`. -/
theorem test_stop_at_the_end_of_rom :
    runFault { base with pc := 0x7FFF#16, cfg := { base.cfg with rom := [(0x7FFF, 0x10#8)] } } [] =
      some (.unsupportedAddress 0x8000#16 .read) := by decide

/-- R59, on an image whose 25 bytes are 0, so that the checksum is 0 - 25 = 0xE7. -/
theorem test_header_checksum :
    verifyHeaderChecksum { Config.default with rom := [(0x14D, 0xE7#8)] } = .ok true := rfl

/-- R58: listed codes and an unlisted one. -/
theorem test_header_fields :
    headerColor { Config.default with rom := [(0x143, 0x80#8)] } = .ok (.known true) ∧
      headerDestination { Config.default with rom := [(0x14A, 0x01#8)] } = .ok (.known .japan) ∧
      headerSgb { Config.default with rom := [(0x146, 0x05#8)] } = .ok (.unknown 5) := ⟨rfl, rfl, rfl⟩

/-- R58: the title "GO" with "é" (0xC3 0xA9 in UTF-8) after it, a byte that is in no text, and ten zero bytes. -/
theorem test_header_title :
    (headerTitle { Config.default with
        rom := [(0x134, 0x47#8), (0x135, 0x4F#8), (0x136, 0xC3#8), (0x137, 0xA9#8), (0x138, 0xFF#8)] }) =
      .ok ([.known 'G', .known 'O', .known 'é', .unknown 0xFF] ++ List.replicate 10 (.known (Char.ofNat 0))) := by
  decide

/-- An overlong form, a surrogate and a sequence cut short are no characters (Unicode's table of well-formed
UTF-8). -/
theorem test_header_title_ill_formed :
    decodeText 0 [0xC0#8, 0x80#8] = [.unknown 0xC0, .unknown 0x80] ∧
      decodeText 0 [0xED#8, 0xA0#8, 0x80#8] = [.unknown 0xED, .unknown 0xA0, .unknown 0x80] ∧
      decodeText 0 [0x41#8, 0xE2#8, 0x82#8] = [.known 'A', .unknown 0xE2, .unknown 0x82] := by decide

/-! ## A state that meets the hypotheses of each statement -/

theorem bytesAt_nil (s : State) (addr : Word) : BytesAt s addr [] := by
  intro k v h
  simp at h

theorem bytesAt_cons {s : State} {addr : Word} {v : Byte} {rest : List Byte} (h : memRead s addr = .ok v)
    (hr : BytesAt s (addr + 1#16) rest) : BytesAt s addr (v :: rest) := by
  intro k w hk
  cases k with
  | zero =>
    simp only [List.getElem?_cons_zero, Option.some.injEq] at hk
    simpa [hk] using h
  | succ k =>
    have h1 := hr k w (by simpa using hk)
    have h2 : addr + BitVec.ofNat 16 (k + 1) = addr + 1#16 + BitVec.ofNat 16 k := by
      rw [BitVec.add_assoc, Nat.add_comm, BitVec.ofNat_add]
    rwa [h2]

theorem witness_DecodeOfEncode :
    Instr.set_7_a.wf true = true ∧ Instr.ld_b_c.wf false = true ∧ Instr.prefix_cb.wf false = true ∧
      Instr.undefined_fd.wf true = true := by decide

theorem witness_EncodeOfDecode :
    decode true [0xCB#8, 0xFF#8, 0x00#8] = .ok (.set_7_a, [0x00#8]) ∧
      decode false [0xCB#8, 0xFF#8] = .ok (.prefix_cb, [0xFF#8]) := ⟨rfl, rfl⟩

theorem witness_LengthFromFirstByte :
    (3 = (if 0xC3#8 = 0xCB#8 ∧ true = false then 1 else lengthOf 0xC3#8) ∧ 3 ≤ 1 + [0x00#8, 0xC0#8].length) ∧
      1 + [0x00#8].length < 3 ∧
      (1 = (if 0xCB#8 = 0xCB#8 ∧ false = false then 1 else lengthOf 0xCB#8) ∧
        1 ≤ 1 + ([] : List Byte).length) := by decide

theorem witness_StepRunsDecodedInstruction :
    (withCode base [0xC3#8, 0x00#8, 0xC0#8]).mode = .running ∧
      BytesAt (withCode base [0xC3#8, 0x00#8, 0xC0#8]) 0x0100#16 [0xC3#8, 0x00#8, 0xC0#8] ∧
      decode true [0xC3#8, 0x00#8, 0xC0#8] = .ok (.jp_a16 0xC000#16, []) :=
  ⟨rfl, bytesAt_cons rfl (bytesAt_cons rfl (bytesAt_cons rfl (bytesAt_nil _ _))), rfl⟩

/-- The last byte of ROM is the first byte of STOP, and the next fetch reaches VRAM. -/
def stopAtEnd : State :=
  { base with pc := 0x7FFF#16, cfg := { base.cfg with rom := [(0x7FFF, 0x10#8)] } }

theorem witness_FetchFaultEndsStep :
    stopAtEnd.mode = .running ∧ BytesAt stopAtEnd stopAtEnd.pc [0x10#8] ∧
      decode true [0x10#8] = .error (.truncated 0x10#8) ∧
      memRead stopAtEnd (stopAtEnd.pc + BitVec.ofNat 16 [0x10#8].length) =
        .error (.unsupportedAddress 0x8000#16 .read) :=
  ⟨rfl, bytesAt_cons rfl (bytesAt_nil _ _), rfl, rfl⟩

theorem witness_FetchFaultEndsStep_opcode :
    BytesAt base 0x8000#16 [] ∧ decode true [] = .error .noOpcode ∧
      memRead base 0x8000#16 = .error (.unsupportedAddress 0x8000#16 .read) :=
  ⟨bytesAt_nil _ _, rfl, rfl⟩

theorem witness_HaltedAndStoppedStepsAreNoOps :
    { base with mode := .halted }.mode = .halted ∧ { base with mode := .stopped }.mode = .stopped := by decide

theorem witness_UndefinedOpcodesFault :
    (withCode base [0xFD#8]).mode = .running ∧ 0xFD#8 ∈ undefinedOpcodes ∧
      memRead (withCode base [0xFD#8]) 0x0100#16 = .ok 0xFD#8 := ⟨rfl, by decide, rfl⟩

theorem witness_PrefixByteSelectsCbMap :
    (memRead (withCode { base with cfg := Config.default } [0xCB#8]) 0x0100#16 = .ok 0xCB#8 ∧
      Config.default.cbEnabled = false) ∧
    (base.cfg.cbEnabled = true ∧
      memRead { base with pc := 0x8000#16 } 0x8000#16 = .error (.unsupportedAddress 0x8000#16 .read)) ∧
    (memRead (withCode base [0x7E#8]) 0x0100#16 = .ok 0x7E#8 ∧
      decode true [0xCB#8, 0x7E#8] = .ok (.bit_7_atHL, [])) ∧
    (memRead (withCode base [0xC7#8]) 0x0100#16 = .ok 0xC7#8 ∧ (0xC7#8).toNat % 8 ≠ 6) :=
  ⟨⟨rfl, rfl⟩, ⟨rfl, rfl⟩, ⟨rfl, rfl⟩, rfl, by decide⟩

theorem witness_CbMapNeedsCbEnabled :
    Instr.set_7_a.kind = .cbTable ∧ { base with cfg := Config.default }.cfg.cbEnabled = false := ⟨rfl, rfl⟩

theorem witness_StepFaultsAreOfTheTaxonomy :
    step (withCode { base with d := 0x80#8 } [0x12#8]) = .fault (.unsupportedAddress 0x8000#16 .write) ∧
    step { base with cfg := { base.cfg with romLen := 0x100 } } =
      .fault (.unsupportedAddress 0x0100#16 .read) ∧
    step (withCode base [0xFD#8]) = .fault (.unimplementedOpcode 0xFD#8 0x0100#16) ∧
    step (withCode { base with cfg := Config.default } [0xCB#8]) =
      .fault (.unimplementedOpcode 0xCB#8 0x0100#16) := ⟨rfl, rfl, rfl, rfl⟩

theorem witness_FetchWordIsRun :
    decodeTableWord 16 0xCBFF = some .set_7_a ∧ decodeTableWord 8 0xC3 = some (.jp_a16 0x0000#16) := by decide

theorem witness_AddressMapIsPartition : (0x8000, 0x9FFF, Region.vram) ∈ addressMap ∧
    0x8000 ≤ (0x8000#16).toNat ∧ (0x8000#16).toNat ≤ 0x9FFF := by decide

theorem witness_ReadByteFollowsAddressMap :
    ((0x7FFF#16).toNat ≤ 0x7FFF ∧ (0x7FFF#16).toNat < base.cfg.romLen) ∧
    ((0x0000#16).toNat ≤ 0x7FFF ∧ { base.cfg with romLen := 0 }.romLen ≤ (0x0000#16).toNat) ∧
    (Unsupported 0x8000#16 ∧ Unsupported 0x9FFF#16 ∧ Unsupported 0xFE00#16 ∧ Unsupported 0xFE9F#16 ∧
      Unsupported 0xFF00#16 ∧ Unsupported 0xFF7F#16) ∧
    (0xA000 ≤ (0xDFFF#16).toNat ∧ (0xDFFF#16).toNat ≤ 0xDFFF) ∧
    (0xE000 ≤ (0xE000#16).toNat ∧ (0xE000#16).toNat ≤ 0xFDFF) ∧
    (0xFEA0 ≤ (0xFEFF#16).toNat ∧ (0xFEFF#16).toNat ≤ 0xFEFF) ∧
    (0xFF80 ≤ (0xFFFE#16).toNat ∧ (0xFFFE#16).toNat ≤ 0xFFFE) ∧ (0xFFFF#16).toNat = 0xFFFF := by
  simp only [Unsupported]
  decide

theorem witness_WriteByteFollowsAddressMap :
    Unsupported 0x9FFF#16 ∧ ¬ Unsupported 0x7FFF#16 ∧ ¬ Unsupported 0xA000#16 ∧ ¬ Unsupported 0xFF80#16 ∧
      Storage 0xA000#16 ∧ Storage 0xDFFF#16 ∧ Storage 0xFFFF#16 ∧ ¬ Storage 0xE000#16 := by
  simp only [Unsupported, Storage]
  decide

theorem witness_WordAccessIsLittleEndian :
    (memRead base 0xFFFF#16 = .ok 0x00#8 ∧ memRead base 0x0000#16 = .ok 0x00#8) ∧
    memRead base 0x9FFF#16 = .error (.unsupportedAddress 0x9FFF#16 .read) ∧
    (memRead base 0x7FFF#16 = .ok 0x00#8 ∧
      memRead base 0x8000#16 = .error (.unsupportedAddress 0x8000#16 .read)) ∧
    (¬ Unsupported 0xFFFF#16 ∧ ¬ Unsupported (0xFFFF#16 + 1#16)) ∧
    firstWriteFault 0x7FFF#16 0x8000#16 (.unsupportedAddress 0x8000#16 .write) ∧
    firstWriteFault 0x9FFF#16 0xA000#16 (.unsupportedAddress 0x9FFF#16 .write) := by
  simp only [Unsupported, firstWriteFault]
  exact ⟨⟨rfl, rfl⟩, rfl, ⟨rfl, rfl⟩, by decide, by decide, by decide⟩

theorem witness_PopReturnsThePushedWord :
    Storage (base.sp - 1#16) ∧ Storage (base.sp - 2#16) := by
  simp only [Storage]
  decide

theorem witness_RegisterWriteFrame : Reg8.a ≠ Reg8.b := by decide

/-- A state whose HL, BC, DE and high-page offset reach storage. -/
def inRam : State :=
  { base with b := 0xC0#8, c := 0x80#8, d := 0xC0#8, h := 0xC0#8, mem := [(0xC000, 0x5A#8)] }

/-- A state whose HL, BC and DE reach VRAM, and whose high-page offset reaches IO. -/
def inVram : State := { base with b := 0x80#8, c := 0x00#8, d := 0x80#8, h := 0x80#8 }

theorem witness_LoadRegisterFromMemory :
    (memRead inRam (hl inRam) = .ok 0x5A#8 ∧ memRead inRam (inRam.b ++ inRam.c) = .ok 0x00#8 ∧
      memRead inRam (inRam.d ++ inRam.e) = .ok 0x5A#8 ∧ memRead inRam 0xC000#16 = .ok 0x5A#8 ∧
      memRead inRam (BitVec.ofNat 16 (0xFF00 + (0x80#8).toNat)) = .ok 0x00#8) ∧
    (memRead inVram (hl inVram) = .error (.unsupportedAddress 0x8000#16 .read) ∧
      memRead inVram (inVram.b ++ inVram.c) = .error (.unsupportedAddress 0x8000#16 .read) ∧
      memRead inVram (inVram.d ++ inVram.e) = .error (.unsupportedAddress 0x8000#16 .read) ∧
      memRead inVram (BitVec.ofNat 16 (0xFF00 + inVram.c.toNat)) =
        .error (.unsupportedAddress 0xFF00#16 .read)) :=
  ⟨⟨rfl, rfl, rfl, rfl, rfl⟩, rfl, rfl, rfl, rfl⟩

theorem witness_StoreByteToMemory :
    (¬ Unsupported (hl inRam) ∧ ¬ Unsupported (inRam.b ++ inRam.c) ∧ ¬ Unsupported (inRam.d ++ inRam.e) ∧
      ¬ Unsupported (BitVec.ofNat 16 (0xFF00 + inRam.c.toNat))) ∧
    (Unsupported (hl inVram) ∧ Unsupported (inVram.b ++ inVram.c) ∧ Unsupported (inVram.d ++ inVram.e) ∧
      Unsupported (BitVec.ofNat 16 (0xFF00 + inVram.c.toNat))) := by
  simp only [Unsupported]
  decide

theorem witness_LoadAndStepHL :
    memRead { base with h := 0xFF#8, l := 0xFF#8 } (hl { base with h := 0xFF#8, l := 0xFF#8 }) = .ok 0x00#8 ∧
      memRead inVram (hl inVram) = .error (.unsupportedAddress 0x8000#16 .read) := ⟨rfl, rfl⟩

theorem witness_StoreAndStepHL :
    ¬ Unsupported (hl { base with h := 0xFF#8, l := 0xFF#8 }) ∧ Unsupported (hl inVram) := by
  simp only [Unsupported]
  decide

theorem witness_StoreStackPointer :
    (¬ Unsupported (0xFF#8 ++ 0xFF#8) ∧ ¬ Unsupported ((0xFF#8 ++ 0xFF#8) + 1#16)) ∧
    firstWriteFault (0x7F#8 ++ 0xFF#8) ((0x7F#8 ++ 0xFF#8) + 1#16) (.unsupportedAddress 0x8000#16 .write) := by
  simp only [Unsupported, firstWriteFault]
  decide

theorem witness_StackPointerPlusOffset :
    0x0004#16 = (0x0005#16) + (0xFF#8).signExtend 16 ∧
      0x30#8 = flagsByte 0x00#8 false false (decide ((0x0005#16).toNat % 16 + (0xFF#8).toNat % 16 > 0xF))
        (decide ((0x0005#16).toNat % 256 + (0xFF#8).toNat > 0xFF)) := by decide

/-- A stack in VRAM at both bytes, and one whose lower byte alone is in VRAM. -/
theorem witness_PushPair :
    (¬ Unsupported (base.sp - 1#16) ∧ ¬ Unsupported (base.sp - 2#16)) ∧
    firstWriteFault (0x8002#16 - 1#16) (0x8002#16 - 2#16) (.unsupportedAddress 0x8001#16 .write) ∧
    firstWriteFault (0xA001#16 - 1#16) (0xA001#16 - 2#16) (.unsupportedAddress 0x9FFF#16 .write) := by
  simp only [Unsupported, firstWriteFault]
  decide

theorem witness_PopPair :
    (memRead { base with sp := 0xFFFF#16 } 0xFFFF#16 = .ok 0x00#8 ∧
      memRead { base with sp := 0xFFFF#16 } (0xFFFF#16 + 1#16) = .ok 0x00#8) ∧
    memRead base 0x8000#16 = .error (.unsupportedAddress 0x8000#16 .read) ∧
    (memRead base 0x7FFF#16 = .ok 0x00#8 ∧
      memRead base (0x7FFF#16 + 1#16) = .error (.unsupportedAddress 0x8000#16 .read)) :=
  ⟨⟨rfl, rfl⟩, rfl, rfl, rfl⟩

/-- The right operand of the binary operations and the operand of BIT: a register, a readable byte, a fault. -/
theorem witness_operand :
    operand base (.reg .a) = .ok 0x01#8 ∧ operand inRam .atHL = .ok 0x5A#8 ∧
      operand inVram .atHL = .error (.unsupportedAddress 0x8000#16 .read) := ⟨rfl, rfl, rfl⟩

theorem witness_AddAndAddWithCarry : operand inRam .atHL = .ok 0x5A#8 ∧
    operand inVram .atHL = .error (.unsupportedAddress 0x8000#16 .read) := ⟨rfl, rfl⟩

theorem witness_SubtractAndCompare : operand inRam (.reg .h) = .ok 0xC0#8 ∧
    operand inVram .atHL = .error (.unsupportedAddress 0x8000#16 .read) := ⟨rfl, rfl⟩

theorem witness_BitwiseLogic : operand inRam (.reg .l) = .ok 0x00#8 ∧
    operand inVram .atHL = .error (.unsupportedAddress 0x8000#16 .read) := ⟨rfl, rfl⟩

theorem witness_IncrementAndDecrementByte : memRead inRam (hl inRam) = .ok 0x5A#8 ∧
    memRead inVram (hl inVram) = .error (.unsupportedAddress 0x8000#16 .read) := ⟨rfl, rfl⟩

theorem witness_DecimalAdjust :
    (flagN { base with a := 0x9A#8 } = false ∧
      0x60 = (if flagC { base with a := 0x9A#8 } ∨ (0x9A#8).toNat > 0x99 then 0x60 else 0) ∧
      0x06 = (if flagH { base with a := 0x9A#8 } ∨ (0x9A#8).toNat % 16 > 9 then 0x06 else 0)) ∧
    (flagN { base with f := 0x70#8 } = true ∧
      0x60 = (if flagC { base with f := 0x70#8 } then 0x60 else 0) ∧
      0x06 = (if flagH { base with f := 0x70#8 } then 0x06 else 0)) := by decide

theorem witness_DecimalAdjustGivesDecimalArithmetic : (99 < 100 ∧ 0 < 100) ∧ { base with a := 0x99#8 }.a = bcd 99 := by
  decide

theorem witness_AddWordToHL :
    0x0FFF = (hl { base with h := 0x0F#8, l := 0xFF#8, c := 0x01#8 }).toNat ∧
      0x0001 = (reg16 { base with h := 0x0F#8, l := 0xFF#8, c := 0x01#8 } .bc).toNat := by decide

theorem witness_AccumulatorRotates :
    ∀ op, (fun op => rotated op base.a.toNat (cin base)) op = rotated op base.a.toNat (cin base) := fun _ => rfl

theorem witness_CbRotatesAndShifts : inRam.cfg.cbEnabled = true ∧ memRead inRam (hl inRam) = .ok 0x5A#8 ∧
    memRead inVram (hl inVram) = .error (.unsupportedAddress 0x8000#16 .read) := ⟨rfl, rfl, rfl⟩

theorem witness_CbBitTest : inVram.cfg.cbEnabled = true ∧ operand inVram (.reg .h) = .ok 0x80#8 ∧
    operand inVram .atHL = .error (.unsupportedAddress 0x8000#16 .read) := ⟨rfl, rfl, rfl⟩

theorem witness_CbBitResetAndSet : inRam.cfg.cbEnabled = true ∧ memRead inRam (hl inRam) = .ok 0x5A#8 ∧
    memRead inVram (hl inVram) = .error (.unsupportedAddress 0x8000#16 .read) := ⟨rfl, rfl, rfl⟩

theorem witness_CallsAndRestarts :
    (¬ Unsupported (0x0000#16 - 1#16) ∧ ¬ Unsupported (0x0000#16 - 2#16)) ∧
    firstWriteFault (0x8001#16 - 1#16) (0x8001#16 - 2#16) (.unsupportedAddress 0x8000#16 .write) ∧
    condHolds base .nz = true ∧ condHolds base .z = false := by
  simp only [Unsupported, firstWriteFault]
  decide

theorem witness_Returns : condHolds base .nc = true ∧ condHolds base .c = false ∧
    (memRead base base.sp = .ok 0x00#8 ∧ memRead base (base.sp + 1#16) = .ok 0x00#8) := ⟨rfl, rfl, rfl, rfl⟩

theorem witness_InvariantHoldsAtLaunch : Launch.wf Launch.postBoot := by decide

theorem witness_InvariantKeptByStep :
    (withCode base [0x77#8]).Inv ∧ ∃ t, step (withCode base [0x77#8]) = .next t := ⟨by decide, _, rfl⟩

theorem witness_StepKeepsConfiguration : ∃ t, step (withCode base [0x77#8]) = .next t := ⟨_, rfl⟩

theorem witness_OnlyDiEiRetiWriteIme : (∃ t, exec .di base = .next t) ∧ (∃ t, exec .reti base = .next t) :=
  ⟨⟨_, rfl⟩, _, rfl⟩

theorem witness_OnlyHaltAndStopWriteMode :
    (∃ t, exec .halt base = .next t) ∧ (∃ t, exec (.stop 0x00#8) base = .next t) ∧ ∃ t, exec .nop base = .next t :=
  ⟨⟨_, rfl⟩, ⟨_, rfl⟩, _, rfl⟩

theorem witness_OnlyListedInstructionsWriteSp :
    exec .inc_sp base = .next { base with sp := 0xFFFF#16 } ∧ { base with sp := 0xFFFF#16 }.sp ≠ base.sp :=
  ⟨rfl, by decide⟩

theorem witness_OnlyStoringInstructionsWriteMemory :
    ∃ t, exec (.ld_atHL_n8 0x77#8) inRam = .next t ∧ ∃ x, memRead t x ≠ memRead inRam x :=
  ⟨{ inRam with mem := [(0xC000, 0x77#8)] }, rfl, 0xC000#16, by
    show (Except.ok 0x77#8 : Except Fault Byte) ≠ Except.ok 0x5A#8
    simp⟩

theorem witness_FaultsLeaveTheStateOfBefore :
    step (withCode base [0xFD#8]) = .fault (.unimplementedOpcode 0xFD#8 0x0100#16) ∧
      { base with mode := .halted }.mode ≠ .running := ⟨rfl, by decide⟩

theorem witness_HeaderChecksum : { Config.default with romLen := 0x14D }.romLen < 0x14E ∧
    0x14E ≤ { Config.default with romLen := 0x14E }.romLen := by decide

theorem witness_HeaderChecksumDetectsOneByte :
    verifyHeaderChecksum { Config.default with rom := [(0x14D, 0xE7#8)] } = .ok true ∧ 0x134 ≤ 0x14C ∧
      0xFF#8 ≠ Memory.read [(0x14D, 0xE7#8)] 0x14C := ⟨rfl, by decide, by decide⟩

/-! ## The memory list in canonical form: the laws on small lists -/

theorem test_memory_write_rising :
    Memory.write (Memory.write [] 0xC001 0x22#8) 0xC000 0x11#8 = [(0xC000, 0x11#8), (0xC001, 0x22#8)] := by decide

theorem test_reset_invariant : State.reset.Inv := by decide

theorem test_core_reset : Sys2Proof.core.reset = State.reset := rfl

end Sys2Proof.Tests
end

/-! The faults of a step. An access fails on the conditions of R183 alone (`BusFault`), an instruction that the fetch
can hand to `exec` fails by its accesses alone, and the undefined opcodes and the 0xCB byte with `CB_ENABLED` false are
the only other stops. -/

namespace Sys2Proof.Machine

open Sys2Proof.Spec

/-! ## The conditions of a fault -/

/-- The faults of an access under a configuration (R39, R42, R183). -/
def BusFault (cfg : Config) (e : Fault) : Prop :=
  (∃ addr kind, e = .unsupportedAddress addr kind ∧ Unsupported addr) ∨
  (∃ addr, e = .unsupportedAddress addr .read ∧ addr.toNat ≤ 0x7FFF ∧ cfg.romLen ≤ addr.toNat)

/-- A computation that fails, if it does, with a fault of `P`. -/
def FailsIn {α : Type} (P : Fault → Prop) (x : Except Fault α) : Prop :=
  ∀ e, x = .error e → P e

/-- A result that is no refusal, and is a fault only of `P`. -/
def FaultsIn (P : Fault → Prop) (r : Result) : Prop :=
  (∀ c, r ≠ .refused c) ∧ ∀ e, r = .fault e → P e

variable {P : Fault → Prop}

theorem FailsIn.pure {α : Type} (v : α) : FailsIn P (Pure.pure v : Except Fault α) :=
  fun _ h => nomatch h

theorem FailsIn.bind {α β : Type} {x : Except Fault α} {f : α → Except Fault β} (hx : FailsIn P x)
    (hf : ∀ v, x = .ok v → FailsIn P (f v)) : FailsIn P (x >>= f) := by
  cases x with
  | error e => exact fun e' h => hx e' (by cases h; rfl)
  | ok v => exact hf v rfl

theorem FaultsIn.next (t : State) : FaultsIn P (.next t) :=
  ⟨nofun, nofun⟩

theorem FaultsIn.raise {e : Fault} (h : P e) : FaultsIn P (raise e) :=
  ⟨nofun, fun _ he => Host.Outcome.fault.inj he ▸ h⟩

theorem FaultsIn.finish {x : Except Fault State} (hx : FailsIn P x) : FaultsIn P (finish x) := by
  cases x with
  | error e => exact .raise (hx e rfl)
  | ok t => exact .next t

theorem FaultsIn.mono {Q : Fault → Prop} {r : Result} (h : FaultsIn P r) (hPQ : ∀ e, P e → Q e) :
    FaultsIn Q r :=
  ⟨h.1, fun e he => hPQ e (h.2 e he)⟩

/-! ## Accesses -/

theorem regionOf_isUnsupported_iff (a : Word) : (regionOf a).isUnsupported = true ↔ Unsupported a := by
  unfold regionOf Unsupported
  split_ifs <;> simp only [Region.isUnsupported] <;> simp <;> omega

theorem toNat_le_of_regionOf_rom {a : Word} (h : regionOf a = .rom) : a.toNat ≤ 0x7FFF := by
  unfold regionOf at h
  split_ifs at h
  assumption

theorem memRead_failsIn (s : State) (a : Word) : FailsIn (BusFault s.cfg) (memRead s a) := by
  intro e h
  obtain rfl := memRead_error h
  cases hr : regionOf a with
  | rom =>
    refine .inr ⟨a, rfl, toNat_le_of_regionOf_rom hr, ?_⟩
    by_contra hlt
    simp [memRead, hr, romByte?, Nat.not_le.mp hlt] at h
  | vram | oam | io => exact .inl ⟨a, .read, rfl, (regionOf_isUnsupported_iff a).1 (by rw [hr]; rfl)⟩
  | eram | wram | echo | unusable | hram | ie => simp [memRead, hr] at h

theorem memWrite_failsIn (cfg : Config) (s : State) (a : Word) (v : Byte) :
    FailsIn (BusFault cfg) (memWrite s a v) := by
  intro e h
  obtain ⟨rfl, hu⟩ := memWrite_error h
  exact .inl ⟨a, .write, rfl, (regionOf_isUnsupported_iff a).1 hu⟩

theorem memWrite16_failsIn (cfg : Config) (s : State) (a v : Word) :
    FailsIn (BusFault cfg) (memWrite16 s a v) :=
  .bind (memWrite_failsIn cfg _ _ _) fun _ _ => memWrite_failsIn cfg _ _ _

theorem push16_failsIn (cfg : Config) (s : State) (v : Word) : FailsIn (BusFault cfg) (push16 s v) :=
  .bind (memWrite_failsIn cfg _ _ _) fun _ _ => memWrite_failsIn cfg _ _ _

theorem pop8_failsIn (s : State) : FailsIn (BusFault s.cfg) (pop8 s) :=
  .bind (memRead_failsIn s _) fun _ _ => .pure _

theorem pop8_cfg {s : State} {r : Byte × State} (h : pop8 s = .ok r) : r.2.cfg = s.cfg := by
  unfold pop8 at h
  cases hr : memRead s s.sp <;> simp [hr, bind, Except.bind, pure, Except.pure] at h
  rw [← h]

theorem pop16_failsIn (s : State) : FailsIn (BusFault s.cfg) (pop16 s) :=
  .bind (pop8_failsIn s) fun r hr =>
    .bind (pop8_cfg hr ▸ pop8_failsIn r.2) fun _ _ => .pure _

theorem fetchByte_failsIn (s : State) : FailsIn (BusFault s.cfg) (fetchByte s) :=
  .bind (memRead_failsIn s _) fun _ _ => .pure _

theorem fetchByte_cfg {s : State} {r : Byte × State} (h : fetchByte s = .ok r) : r.2.cfg = s.cfg := by
  unfold fetchByte at h
  cases hr : memRead s s.pc <;> simp [hr, bind, Except.bind, pure, Except.pure] at h
  rw [← h]

theorem fetchOperands_failsIn (n : Nat) (s : State) : FailsIn (BusFault s.cfg) (fetchOperands n s) := by
  match n with
  | 0 => exact .pure _
  | 1 => exact .bind (fetchByte_failsIn s) fun _ _ => .pure _
  | _ + 2 =>
    exact .bind (fetchByte_failsIn s) fun r hr =>
      .bind (fetchByte_cfg hr ▸ fetchByte_failsIn r.2) fun _ _ => .pure _

theorem fetchInstr_failsIn (s : State) : FailsIn (BusFault s.cfg) (fetchInstr s) :=
  .bind (fetchByte_failsIn s) fun r hr =>
    .bind (fetchByte_cfg hr ▸ fetchOperands_failsIn _ r.2) fun _ _ => .pure _

theorem readOpnd_failsIn (s : State) (o : Opnd8) : FailsIn (BusFault s.cfg) (readOpnd s o) := by
  cases o with
  | reg r => exact .pure _
  | atHL => exact memRead_failsIn s _

theorem writeOpnd_failsIn (cfg : Config) (s : State) (o : Opnd8) (v : Byte) :
    FailsIn (BusFault cfg) (writeOpnd s o v) := by
  cases o with
  | reg r => exact .pure _
  | atHL => exact memWrite_failsIn cfg s _ v

/-- An operand read, replaced and followed by a pure update of the state: the shape of INC, DEC and the rotates. -/
theorem replaceOpnd_failsIn (s : State) (o : Opnd8) (res : Byte → Byte) (g : Byte → State → State) :
    FailsIn (BusFault s.cfg) (do
      let v ← readOpnd s o
      let t ← writeOpnd s o (res v)
      pure (g v t)) :=
  .bind (readOpnd_failsIn s o) fun _ _ => .bind (writeOpnd_failsIn _ s o _) fun _ _ => .pure _

/-! ## The shared operations of the meanings -/

theorem loadReg_faultsIn (dst : Reg8) (a : Word) (s : State) :
    FaultsIn (BusFault s.cfg) (loadReg dst a s) :=
  .finish (.bind (memRead_failsIn s a) fun _ _ => .pure _)

theorem storeByte_faultsIn (a : Word) (v : Byte) (s : State) :
    FaultsIn (BusFault s.cfg) (storeByte a v s) :=
  .finish (memWrite_failsIn _ s a v)

theorem loadAStep_faultsIn (hl : Word) (s : State) : FaultsIn (BusFault s.cfg) (loadAStep hl s) :=
  .finish (.bind (memRead_failsIn s _) fun _ _ => .pure _)

theorem storeAStep_faultsIn (hl : Word) (s : State) : FaultsIn (BusFault s.cfg) (storeAStep hl s) :=
  .finish (.bind (memWrite_failsIn _ s _ _) fun _ _ => .pure _)

theorem pushPair_faultsIn (q : Pair) (s : State) : FaultsIn (BusFault s.cfg) (pushPair q s) :=
  .finish (push16_failsIn _ s _)

theorem popPair_faultsIn (q : Pair) (s : State) : FaultsIn (BusFault s.cfg) (popPair q s) :=
  .finish (.bind (pop16_failsIn s) fun _ _ => .pure _)

theorem aluOpnd_faultsIn (op : AluOp) (o : Opnd8) (s : State) :
    FaultsIn (BusFault s.cfg) (aluOpnd op o s) :=
  .finish (.bind (readOpnd_failsIn s o) fun _ _ => .pure _)

theorem incOpnd_faultsIn (o : Opnd8) (s : State) : FaultsIn (BusFault s.cfg) (incOpnd o s) :=
  .finish (replaceOpnd_failsIn s o _ _)

theorem decOpnd_faultsIn (o : Opnd8) (s : State) : FaultsIn (BusFault s.cfg) (decOpnd o s) :=
  .finish (replaceOpnd_failsIn s o _ _)

theorem rotOpnd_faultsIn (op : RotOp) (o : Opnd8) (s : State) :
    FaultsIn (BusFault s.cfg) (rotOpnd op o s) :=
  .finish (replaceOpnd_failsIn s o _ _)

theorem bitOpnd_faultsIn (b : Fin 8) (o : Opnd8) (s : State) :
    FaultsIn (BusFault s.cfg) (bitOpnd b o s) :=
  .finish (.bind (readOpnd_failsIn s o) fun _ _ => .pure _)

theorem resOpnd_faultsIn (b : Fin 8) (o : Opnd8) (s : State) :
    FaultsIn (BusFault s.cfg) (resOpnd b o s) :=
  .finish (.bind (readOpnd_failsIn s o) fun _ _ => writeOpnd_failsIn _ s o _)

theorem setOpnd_faultsIn (b : Fin 8) (o : Opnd8) (s : State) :
    FaultsIn (BusFault s.cfg) (setOpnd b o s) :=
  .finish (.bind (readOpnd_failsIn s o) fun _ _ => writeOpnd_failsIn _ s o _)

theorem cbOnly_faultsIn {s : State} {r : Result} (hcb : s.cfg.cbEnabled = true) (h : FaultsIn P r) :
    FaultsIn P (cbOnly s r) := by
  rwa [cbOnly, if_pos hcb]

theorem jumpIf_faultsIn (cc : Cond) (target : Word) (s : State) : FaultsIn P (jumpIf cc target s) := by
  unfold jumpIf
  split
  · exact .next _
  · exact .next _

theorem callTo_faultsIn (target : Word) (s : State) : FaultsIn (BusFault s.cfg) (callTo target s) :=
  .finish (.bind (push16_failsIn _ s _) fun _ _ => .pure _)

theorem callIf_faultsIn (cc : Cond) (target : Word) (s : State) :
    FaultsIn (BusFault s.cfg) (callIf cc target s) := by
  unfold callIf
  split
  · exact callTo_faultsIn target s
  · exact .next _

theorem returnFrom_failsIn (s : State) : FailsIn (BusFault s.cfg) (returnFrom s) :=
  .bind (pop16_failsIn s) fun _ _ => .pure _

theorem returnIf_faultsIn (cc : Cond) (s : State) : FaultsIn (BusFault s.cfg) (returnIf cc s) := by
  unfold returnIf
  split
  · exact .finish (returnFrom_failsIn s)
  · exact .next _

/-! ## Every instruction -/

/-- The instructions that `exec` gives an effect under a setting of `CB_ENABLED`: the base instructions, and the CB
map when it can be reached (R77, R149). -/
def HasEffect (cb : Bool) (i : Instr) : Prop :=
  i.kind = .base ∨ (i.kind = .cbTable ∧ cb = true)

theorem rot_kind (op : RotOp) (o : Opnd8) : (Instr.rot op o).kind = .cbTable := by
  cases op <;> rcases o with ⟨⟨⟩⟩ | ⟨⟩ <;> rfl

theorem bit_kind (b : Fin 8) (o : Opnd8) : (Instr.bit b o).kind = .cbTable := by
  rcases o with ⟨⟨⟩⟩ | ⟨⟩ <;> fin_cases b <;> rfl

theorem res_kind (b : Fin 8) (o : Opnd8) : (Instr.res b o).kind = .cbTable := by
  rcases o with ⟨⟨⟩⟩ | ⟨⟩ <;> fin_cases b <;> rfl

theorem set_kind (b : Fin 8) (o : Opnd8) : (Instr.set b o).kind = .cbTable := by
  rcases o with ⟨⟨⟩⟩ | ⟨⟩ <;> fin_cases b <;> rfl


/-- An instruction with an effect is never refused, and it faults by its accesses alone. -/
theorem exec_faultsIn {i : Instr} {s : State} (hi : HasEffect s.cfg.cbEnabled i) :
    FaultsIn (BusFault s.cfg) (exec i s) := by
  cases inFamily i with
  | undefinedOpcode i hk => simp [HasEffect, hk] at hi
  | prefix_cb => simp [HasEffect, Instr.kind] at hi
  | rot op o =>
    rw [exec_rot]
    exact cbOnly_faultsIn (by simpa [HasEffect, rot_kind] using hi) (rotOpnd_faultsIn op o s)
  | bit b o =>
    rw [exec_bit]
    exact cbOnly_faultsIn (by simpa [HasEffect, bit_kind] using hi) (bitOpnd_faultsIn b o s)
  | res b o =>
    rw [exec_res]
    exact cbOnly_faultsIn (by simpa [HasEffect, res_kind] using hi) (resOpnd_faultsIn b o s)
  | set b o =>
    rw [exec_set]
    exact cbOnly_faultsIn (by simpa [HasEffect, set_kind] using hi) (setOpnd_faultsIn b o s)
  | ldRegReg dst r => rw [exec_ldRegReg]; exact .next _
  | ldRegImm dst n8 => rw [exec_ldRegImm]; exact .next _
  | ldReg16Imm p n16 => rw [exec_ldReg16Imm]; exact .next _
  | incReg16 p => rw [exec_incReg16]; exact .next _
  | decReg16 p => rw [exec_decReg16]; exact .next _
  | addHL p => rw [exec_addHL]; exact .next _
  | aluImm op n8 => rw [exec_aluImm]; exact .next _
  | ldRegAtHL dst => rw [exec_ldRegAtHL]; exact loadReg_faultsIn _ _ s
  | ldAtHLReg r => rw [exec_ldAtHLReg]; exact storeByte_faultsIn _ _ s
  | push q => rw [exec_push]; exact pushPair_faultsIn q s
  | pop q => rw [exec_pop]; exact popPair_faultsIn q s
  | inc8 o => rw [exec_inc8]; exact incOpnd_faultsIn o s
  | dec8 o => rw [exec_dec8]; exact decOpnd_faultsIn o s
  | alu op o => rw [exec_alu]; exact aluOpnd_faultsIn op o s
  | jpCond cc a16 => rw [exec_jpCond]; exact jumpIf_faultsIn cc _ s
  | jrCond cc e8 => rw [exec_jrCond]; exact jumpIf_faultsIn cc _ s
  | callCond cc a16 => rw [exec_callCond]; exact callIf_faultsIn cc _ s
  | retCond cc => rw [exec_retCond]; exact returnIf_faultsIn cc s
  | rst y => rw [exec_rst]; exact callTo_faultsIn _ s
  | call_a16 a16 => exact callTo_faultsIn a16 s
  | ret => exact .finish (returnFrom_failsIn s)
  | reti => exact .finish (.bind (returnFrom_failsIn s) fun _ _ => .pure _)
  | ld_atA16_sp a16 => exact .finish (memWrite16_failsIn _ s a16 _)
  | ld_a_atHLInc | ld_a_atHLDec => exact loadAStep_faultsIn _ s
  | ld_atHLInc_a | ld_atHLDec_a => exact storeAStep_faultsIn _ s
  | ld_a_atBC | ld_a_atDE | ldh_a_atA8 | ld_a_atC | ld_a_atA16 => exact loadReg_faultsIn _ _ s
  | ld_atBC_a | ld_atDE_a | ld_atHL_n8 | ldh_atA8_a | ld_atC_a | ld_atA16_a =>
    exact storeByte_faultsIn _ _ s
  | nop | stop | halt | di | ei | rlca | rrca | rla | rra | daa | cpl | scf | ccf | jr_e8 | jp_a16 | jp_atHL
  | add_sp_e8 | ld_hl_spE8 | ld_sp_hl => exact .next _

/-! ## What the fetch hands to `exec` -/

theorem step_of_noOperands {s : State} {op : Byte} (hm : s.mode = .running) (hop : memRead s s.pc = .ok op)
    (hn : operandBytes s.cfg.cbEnabled op = 0) :
    step s = exec (instrOf s.cfg.cbEnabled op 0#8 0#8) { s with pc := s.pc + 1#16 } := by
  simp [step_running hm, fetchInstr, fetchByte_ok hop, hn, fetchOperands, bind, Except.bind, pure, Except.pure]

theorem instrOf_undefined {op : Byte} (h : op ∈ undefinedOpcodes) (cb : Bool) :
    operandBytes cb op = 0 ∧ (instrOf cb op 0#8 0#8).kind = .undefinedOpcode ∧
      (encode (instrOf cb op 0#8 0#8)).headD 0#8 = op := by
  revert op cb
  decide

theorem step_undefinedOpcode {s : State} {op : Byte} (hm : s.mode = .running)
    (hop : memRead s s.pc = .ok op) (h : op ∈ undefinedOpcodes) :
    step s = raise (.unimplementedOpcode op s.pc) := by
  obtain ⟨hn, hk, he⟩ := instrOf_undefined h s.cfg.cbEnabled
  rw [step_of_noOperands hm hop hn, exec_undefinedOpcode hk, he, BitVec.add_sub_cancel]

theorem step_prefixDisabled {s : State} (hm : s.mode = .running) (hop : memRead s s.pc = .ok 0xCB#8)
    (hcb : s.cfg.cbEnabled = false) : step s = raise (.unimplementedOpcode 0xCB#8 s.pc) := by
  rw [step_of_noOperands hm hop (by rw [hcb]; decide), hcb]
  change exec_prefix_cb { s with pc := s.pc + 1#16 } = _
  simp [exec_prefix_cb, hcb]

section
variable (n8 : Byte) (n16 : Word)

theorem ldRegReg_kind (dst r : Reg8) : (Instr.ldRegReg dst r).kind = .base := by
  cases dst <;> cases r <;> rfl

theorem alu_kind (op : AluOp) (o : Opnd8) : (Instr.alu op o).kind = .base := by
  cases op <;> rcases o with ⟨⟨⟩⟩ | ⟨⟩ <;> rfl

theorem decodeX0_kind (y z p q : Nat) : (decodeX0 y z p q n8 n16).kind = .base := by
  unfold decodeX0
  split
  · cases condOfCode (y - 4) <;> split <;> rfl
  · cases reg16OfCode p <;> split <;> rfl
  · split <;> rfl
  · cases reg16OfCode p <;> split <;> rfl
  · rcases opnd8OfCode y with ⟨⟨⟩⟩ | ⟨⟩ <;> rfl
  · rcases opnd8OfCode y with ⟨⟨⟩⟩ | ⟨⟩ <;> rfl
  · rcases opnd8OfCode y with ⟨⟨⟩⟩ | ⟨⟩ <;> rfl
  · split <;> rfl

theorem decodeX1_kind (y z : Nat) : (decodeX1 y z).kind = .base := by
  unfold decodeX1
  rcases opnd8OfCode y with dst | _ <;> rcases opnd8OfCode z with r | _
  · exact ldRegReg_kind dst r
  · cases dst <;> rfl
  · cases r <;> rfl
  · rfl

theorem decodeX3_kind (y z p q : Nat) : (decodeX3 y z p q n8 n16).kind = .base := by
  unfold decodeX3
  split
  · cases condOfCode y <;> split <;> rfl
  · split
    · cases pairOfCode p <;> rfl
    · split <;> rfl
  · cases condOfCode y <;> split <;> rfl
  · split <;> rfl
  · cases condOfCode y <;> rfl
  · split
    · cases pairOfCode p <;> rfl
    · rfl
  · cases aluOfCode y <;> rfl
  · generalize Fin.ofNat 8 y = t
    fin_cases t <;> rfl

end

theorem decodeCb_kind (o : Byte) : (decodeCb o).kind = .cbTable :=
  decodeCb_family (P := fun i => i.kind = .cbTable) o rot_kind bit_kind res_kind set_kind

/-- Every opcode byte but the undefined ones, and 0xCB when `CB_ENABLED` is false, decodes to an instruction with an
effect (R75, R77, R78). -/
theorem instrOf_hasEffect {cb : Bool} {op : Byte} (hu : op ∉ undefinedOpcodes)
    (hcb : ¬ (op = 0xCB#8 ∧ cb = false)) (b1 b2 : Byte) : HasEffect cb (instrOf cb op b1 b2) := by
  have hop : ∀ n, op.toNat = n → op = BitVec.ofNat 8 n := by
    rintro _ rfl
    simp
  unfold instrOf
  split
  case h_12 h =>
    have : cb = true := by simpa [hop 0xCB h] using hcb
    simp [this, HasEffect, decodeCb_kind]
  case h_13 =>
    refine .inl ?_
    split
    · exact decodeX0_kind _ _ _ _ _ _
    · exact decodeX1_kind _ _
    · exact alu_kind _ _
    · exact decodeX3_kind _ _ _ _ _ _
  all_goals
    next h => exact absurd (hop _ h ▸ by decide) hu

/-! ## The step -/

/-- The faults of the opcode byte at PC: an undefined opcode, and 0xCB with `CB_ENABLED` false (R181, R182, R183). -/
def OpcodeFault (s : State) (e : Fault) : Prop :=
  ∃ op, e = .unimplementedOpcode op s.pc ∧ memRead s s.pc = .ok op ∧
    (op ∈ undefinedOpcodes ∨ (op = 0xCB#8 ∧ s.cfg.cbEnabled = false))

theorem step_faultsIn (s : State) : FaultsIn (fun e => BusFault s.cfg e ∨ OpcodeFault s e) (step s) := by
  cases hm : s.mode with
  | halted | stopped =>
    simp only [step, hm]
    exact .next s
  | running =>
    cases hf : fetchInstr s with
    | error e =>
      simp only [step_running hm, hf]
      exact .raise (.inl (fetchInstr_failsIn s e hf))
    | ok r =>
      obtain ⟨i, t⟩ := r
      obtain ⟨op, b1, b2, hop, rfl, ht⟩ := fetchInstr_ok hf
      by_cases hu : op ∈ undefinedOpcodes
      · rw [step_undefinedOpcode hm hop hu]
        exact .raise (.inr ⟨op, rfl, hop, .inl hu⟩)
      by_cases hcb : op = 0xCB#8 ∧ s.cfg.cbEnabled = false
      · obtain ⟨rfl, hcb⟩ := hcb
        rw [step_prefixDisabled hm hop hcb]
        exact .raise (.inr ⟨_, rfl, hop, .inr ⟨rfl, hcb⟩⟩)
      · have hcfg : t.cfg = s.cfg := by rw [ht]
        have hi : HasEffect t.cfg.cbEnabled (instrOf s.cfg.cbEnabled op b1 b2) :=
          hcfg ▸ instrOf_hasEffect hu hcb b1 b2
        simp only [step_running hm, hf]
        exact .mono (exec_faultsIn hi) fun e he => .inl (hcfg ▸ he)

/-- Settles O11: a step faults at an access of its fetch or of its instruction, or at an opcode without an effect. -/
theorem stepFaultsAreOfTheTaxonomy : Obligations.StepFaultsAreOfTheTaxonomy :=
  ⟨fun s => (step_faultsIn s).1, fun s e h => or_assoc.1 ((step_faultsIn s).2 e h)⟩

end Sys2Proof.Machine

/-! Registers, pairs and flags: what a write of each changes, and what it leaves. -/

namespace Sys2Proof.Machine

open Sys2Proof.Spec

/-- Settles O18: a register write is seen at that register alone. -/
theorem registerWriteFrame : Obligations.RegisterWriteFrame :=
  fun s r v =>
    ⟨⟨rfl, rfl, rfl, rfl, rfl, rfl, rfl⟩, reg_setReg_self s r v, fun _ h => reg_setReg_of_ne s v h,
      setReg_f s r v, setReg_sp s r v, setReg_pc s r v, setReg_ime s r v, setReg_mode s r v, setReg_mem s r v,
      setReg_ie s r v, setReg_cfg s r v⟩

/-- The first register of a pair is the high byte (R19). -/
theorem toNat_concat (hi lo : Byte) : (concat hi lo).toNat = hi.toNat * 256 + lo.toNat := by
  rw [concat, BitVec.toNat_append, ← Nat.shiftLeft_add_eq_or_of_lt lo.isLt, Nat.shiftLeft_eq]

/-- AF reads back with bits 3..0 of F cleared (R20, R25). -/
theorem pair_setPair_af (s : State) (v : Word) : (s.setPair .af v).pair .af = v &&& 0xFFF0#16 := by
  change concat (hiByte v) (loByte v &&& 0xF0#8) = v &&& 0xFFF0#16
  calc concat (hiByte v) (loByte v &&& 0xF0#8)
      = concat (hiByte v &&& 0xFF#8) (loByte v &&& 0xF0#8) := congrArg (concat · _) BitVec.and_allOnes.symm
    _ = concat (hiByte v) (loByte v) &&& concat 0xFF#8 0xF0#8 := BitVec.and_append.symm
    _ = v &&& 0xFFF0#16 := by rw [concat_hiByte_loByte]; rfl

/-- Settles O19: a pair is the concatenation of its registers, and its write sets those two alone. -/
theorem pairsAreViews : Obligations.PairsAreViews :=
  ⟨fun s => ⟨toNat_concat s.b s.c, toNat_concat s.d s.e, toNat_concat s.h s.l, toNat_concat s.a s.f⟩,
    fun s v => ⟨⟨pair_setPair_bc s v, rfl⟩, ⟨pair_setPair_de s v, rfl⟩, ⟨pair_setPair_hl s v, rfl⟩,
      ⟨pair_setPair_af s v, rfl⟩⟩⟩

theorem getElem_weight (b : Bool) (n : Byte) {j : Nat} (hj : j < 8) : (weight b n)[j] = (b && n[j]) := by
  cases b <;> simp [weight]

/-- The bits of F with the four flags written: bits 7..4 are Z, N, H and C, and bits 3..0 are the old ones (R22). -/
theorem getLsbD_flagsByte (old : Byte) (z n h c : Bool) {j : Nat} (hj : j < 8) :
    (flagsByte old z n h c).getLsbD j =
      if j = 7 then z else if j = 6 then n else if j = 5 then h else if j = 4 then c else old.getLsbD j := by
  interval_cases j <;> simp [flagsByte, getElem_weight]

/-- One flag's bit written is F put together again with that flag replaced (R24). -/
theorem putBit_flag (f : Byte) (x : Flag) (b : Bool) :
    putBit f x.bit b =
      flagsByte f (if x = .z then b else f.getLsbD 7) (if x = .n then b else f.getLsbD 6)
        (if x = .h then b else f.getLsbD 5) (if x = .c then b else f.getLsbD 4) := by
  refine BitVec.eq_of_getLsbD_eq fun j hj => ?_
  rw [getLsbD_putBit f b x.bit_lt hj, getLsbD_flagsByte _ _ _ _ _ hj]
  cases x <;> interval_cases j <;> rfl

theorem setFlag_eq (s : State) (x : Flag) (b : Bool) :
    s.setFlag x b =
      { s with
        f := flagsByte s.f (if x = .z then b else flagZ s) (if x = .n then b else flagN s)
          (if x = .h then b else flagH s) (if x = .c then b else flagC s) } :=
  congrArg (fun f => { s with f := f }) (putBit_flag s.f x b)

/-- Settles O20: a flag write replaces one of the four flags of F. -/
theorem flagWriteFrame : Obligations.FlagWriteFrame :=
  fun s b => ⟨setFlag_eq s .z b, setFlag_eq s .n b, setFlag_eq s .h b, setFlag_eq s .c b, rfl, rfl, rfl, rfl⟩

end Sys2Proof.Machine

/-! What every step keeps. Each invariant is a relation that the elementary updates are in, and `exec_rel` carries it
to every instruction. -/

namespace Sys2Proof.Machine

open Sys2Proof.Spec

/-! ## The low nibble of F (R25) -/

/-- A byte masked with 0xF0 has bits 3..0 at 0 (R20, R25, R197). -/
theorem and_F0_and_0F (v : Byte) : v &&& 0xF0#8 &&& 0x0F#8 = 0x00#8 := by
  rw [BitVec.and_assoc]
  exact BitVec.and_zero

theorem setPair_keeps_lowNibble {s : State} (h : s.f &&& 0x0F#8 = 0x00#8) (p : Pair) (v : Word) :
    (s.setPair p v).f &&& 0x0F#8 = 0x00#8 := by
  cases p with
  | af => exact and_F0_and_0F _
  | bc | de | hl => exact h

/-! ## The canonical form of memory -/

theorem Memory.write_ramWf {m : Memory} {a : Word} (v : Byte) (ha : (regionOf a).isRam = true) (h : ramWf m) :
    ramWf (Memory.write m a.toNat v) := by
  refine ⟨Memory.write_wf _ v h.1, fun x hx => ?_⟩
  rcases Memory.mem_write hx with hk | hm
  · rw [hk, BitVec.ofNat_toNat, BitVec.setWidth_eq]
    exact ⟨a.isLt, ha⟩
  · exact h.2 x hm

theorem memWrite_keeps_inv {s t : State} {a : Word} {v : Byte} (h : memWrite s a v = .ok t) (hs : s.Inv) :
    t.Inv := by
  obtain ⟨hf, hram, hrom⟩ := hs
  rcases memWrite_ok h with ⟨ha, rfl⟩ | ⟨-, rfl⟩ | ⟨-, -, rfl⟩
  · exact ⟨hf, Memory.write_ramWf v ha hram, hrom⟩
  · exact ⟨hf, hram, hrom⟩
  · exact ⟨hf, hram, hrom⟩

theorem updates_inv : Updates fun s t => s.Inv → t.Inv where
  refl _ h := h
  trans h₁ h₂ h := h₂ (h₁ h)
  setReg s r v h := by simpa [State.Inv] using h
  setPair s p v h := by simpa [State.Inv] using ⟨setPair_keeps_lowNibble h.1 p v, h.2⟩
  flags s w h := ⟨apply_keeps_low_nibble w h.1, h.2⟩
  write := memWrite_keeps_inv
  pc _ _ h := h
  sp _ _ h := h

/-- Settles O51: every elementary update keeps the invariant, so every step does. -/
theorem invariantKeptByStep : Obligations.InvariantKeptByStep :=
  fun _ _ hs h => step_rel updates_inv (fun _ _ h => h) (fun _ _ h => h) h hs

theorem launch_inv {p : Launch} (h : p.wf) : (State.launch p).Inv :=
  ⟨and_F0_and_0F p.initF, h⟩

/-- Settles O50: a launch masks F and takes memory as it is given. -/
theorem invariantHoldsAtLaunch : Obligations.InvariantHoldsAtLaunch :=
  ⟨fun _ => launch_inv, launch_inv (p := .postBoot) (by decide)⟩

/-! ## The fields that few instructions write -/

/-- A field that no register, flag, memory, PC or SP update touches is kept by all of them. -/
theorem updates_keep {α : Type} (field : State → α) (hreg : ∀ s r v, field (s.setReg r v) = field s)
    (hpair : ∀ s p v, field (s.setPair p v) = field s) (hflags : ∀ s w, field (s.writeFlags w) = field s)
    (hwrite : ∀ s m ie, field { s with mem := m, ie := ie } = field s)
    (hpc : ∀ s v, field { s with pc := v } = field s) (hsp : ∀ s v, field { s with sp := v } = field s) :
    Updates fun s t => field t = field s where
  refl _ := rfl
  trans h₁ h₂ := h₂.trans h₁
  setReg := hreg
  setPair := hpair
  flags := hflags
  write h := by rw [memWrite_frame h, hwrite]
  pc := hpc
  sp := hsp

theorem updates_keep_cfg : Updates fun s t => t.cfg = s.cfg :=
  updates_keep State.cfg setReg_cfg setPair_cfg writeFlags_cfg (fun _ _ _ => rfl) (fun _ _ => rfl) fun _ _ => rfl

theorem updates_keep_ime : Updates fun s t => t.ime = s.ime :=
  updates_keep State.ime setReg_ime setPair_ime writeFlags_ime (fun _ _ _ => rfl) (fun _ _ => rfl) fun _ _ => rfl

theorem updates_keep_mode : Updates fun s t => t.mode = s.mode :=
  updates_keep State.mode setReg_mode setPair_mode writeFlags_mode (fun _ _ _ => rfl) (fun _ _ => rfl) fun _ _ => rfl

/-- Settles O52: no update, and no write of IME or of the mode, touches the configuration. -/
theorem stepKeepsConfiguration : Obligations.StepKeepsConfiguration :=
  fun _ _ => step_rel updates_keep_cfg (fun _ _ => rfl) fun _ _ => rfl

/-- RETI is a return that then sets IME (R174). -/
theorem exec_reti_next {s t : State} :
    exec .reti s = .next t ↔ ∃ u, returnFrom s = .ok u ∧ { u with ime := true } = t := by
  change finish (returnFrom s >>= fun u => pure { u with ime := true }) = .next t ↔ _
  simp [finish_bind, pure, Except.pure]

theorem returnFrom_rel {R : State → State → Prop} (C : Updates R) {s t : State} (h : returnFrom s = .ok t) :
    R s t := by
  obtain ⟨⟨v, u⟩, hp, rfl⟩ := returnFrom_ok.1 h
  exact C.trans (C.ofPop16 hp) (C.pc u v)

/-- Settles O53: DI, EI and RETI write the constants, and every other instruction keeps IME. -/
theorem onlyDiEiRetiWriteIme : Obligations.OnlyDiEiRetiWriteIme := by
  intro i s t h
  split_ifs with hdi hset
  · subst hdi
    cases h
    rfl
  · rcases hset with rfl | rfl
    · cases h
      rfl
    · obtain ⟨u, -, rfl⟩ := exec_reti_next.1 h
      rfl
  · rcases exec_rel updates_keep_ime h with (rfl | ⟨n, rfl⟩ | hi | hi | hi) | hkeep
    · cases h
      rfl
    · cases h
      rfl
    · exact absurd hi hdi
    · exact absurd (.inl hi) hset
    · exact absurd (.inr hi) hset
    · exact hkeep

/-- Settles O54: HALT and STOP write their own mode, and every other instruction keeps it. -/
theorem onlyHaltAndStopWriteMode : Obligations.OnlyHaltAndStopWriteMode := by
  intro i s t h
  refine ⟨?_, ?_, fun hhalt hstop => ?_⟩
  · rintro rfl
    cases h
    rfl
  · rintro ⟨n8, rfl⟩
    cases h
    rfl
  · rcases exec_rel updates_keep_mode h with (hi | ⟨n8, hi⟩ | rfl | rfl | rfl) | hkeep
    · exact absurd hi hhalt
    · exact absurd hi (hstop n8)
    · cases h
      rfl
    · cases h
      rfl
    · obtain ⟨u, hret, rfl⟩ := exec_reti_next.1 h
      exact (returnFrom_rel updates_keep_mode hret :)
    · exact hkeep

end Sys2Proof.Machine

/-! No rule reads IME: from two states that differ in IME alone every access, every operation and so every step gives
results that differ in IME alone, or the same fault. -/

namespace Sys2Proof.Machine

/-- Two states that differ in IME alone. -/
def SameButIme (s s' : State) : Prop := ∃ ime, s' = { s with ime := ime }

/-- The same value, and two states that differ in IME alone. -/
inductive SameValue {α : Type} : α × State → α × State → Prop where
  | mk (v : α) {t t' : State} (h : SameButIme t t') : SameValue (v, t) (v, t')

/-- Two computations that succeed with values related by `R`, or fail with the same fault. -/
inductive Alike {α : Type} (R : α → α → Prop) : Except Fault α → Except Fault α → Prop where
  | ok {v v' : α} (h : R v v') : Alike R (.ok v) (.ok v')
  | error (e : Fault) : Alike R (.error e) (.error e)

/-- Two results that are next states which differ in IME alone, or the same fault. -/
inductive EndAlike : Result → Result → Prop where
  | next {t t' : State} (h : SameButIme t t') : EndAlike (.next t) (.next t')
  | fault (e : Fault) : EndAlike (.fault e) (.fault e)

section
variable {α β : Type} {R : α → α → Prop} {S : β → β → Prop}

theorem Alike.bind {x x' : Except Fault α} {f f' : α → Except Fault β} (hx : Alike R x x')
    (hf : ∀ v v', R v v' → Alike S (f v) (f' v')) : Alike S (x >>= f) (x' >>= f') := by
  cases hx with
  | ok h => exact hf _ _ h
  | error e => exact .error e

theorem Alike.of_eq {x x' : Except Fault α} (h : x = x') : Alike Eq x x' := by
  subst h
  cases x with
  | ok v => exact .ok rfl
  | error e => exact .error e

theorem EndAlike.finish {x x' : Except Fault State} (hx : Alike SameButIme x x') :
    EndAlike (finish x) (finish x') := by
  cases hx with
  | ok h => exact .next h
  | error e => exact .fault e

theorem EndAlike.ite {c c' : Bool} {r₁ r₁' r₂ r₂' : Result} (hc : c = c') (h₁ : EndAlike r₁ r₁')
    (h₂ : EndAlike r₂ r₂') : EndAlike (if c then r₁ else r₂) (if c' then r₁' else r₂') := by
  subst hc
  split
  · exact h₁
  · exact h₂

end

variable {s s' : State}

/-! ## The updates -/

theorem SameButIme.setReg (h : SameButIme s s') (r : Reg8) (v : Byte) :
    SameButIme (s.setReg r v) (s'.setReg r v) := by
  obtain ⟨ime, rfl⟩ := h
  exact ⟨ime, by cases r <;> rfl⟩

theorem SameButIme.setPair (h : SameButIme s s') (p : Pair) (v : Word) :
    SameButIme (s.setPair p v) (s'.setPair p v) := by
  obtain ⟨ime, rfl⟩ := h
  exact ⟨ime, by cases p <;> rfl⟩

theorem SameButIme.setReg16 (h : SameButIme s s') (p : Reg16) (v : Word) :
    SameButIme (s.setReg16 p v) (s'.setReg16 p v) := by
  obtain ⟨ime, rfl⟩ := h
  exact ⟨ime, by cases p <;> rfl⟩

theorem SameButIme.writeFlags (h : SameButIme s s') (w : FlagWrite) :
    SameButIme (s.writeFlags w) (s'.writeFlags w) := by
  obtain ⟨ime, rfl⟩ := h
  exact ⟨ime, rfl⟩

theorem SameButIme.setPc (h : SameButIme s s') (v : Word) :
    SameButIme { s with pc := v } { s' with pc := v } := by
  obtain ⟨ime, rfl⟩ := h
  exact ⟨ime, rfl⟩

theorem SameButIme.setSp (h : SameButIme s s') (v : Word) :
    SameButIme { s with sp := v } { s' with sp := v } := by
  obtain ⟨ime, rfl⟩ := h
  exact ⟨ime, rfl⟩

theorem SameButIme.aluA (h : SameButIme s s') (op : AluOp) (v : Byte) :
    SameButIme (aluA op v s) (aluA op v s') := by
  obtain ⟨ime, rfl⟩ := h
  exact ⟨ime, by cases op <;> rfl⟩

/-! ## The accesses -/

theorem memRead_alike (h : SameButIme s s') (a : Word) : Alike Eq (memRead s a) (memRead s' a) := by
  obtain ⟨ime, rfl⟩ := h
  exact .of_eq (memRead_congr rfl rfl rfl a).symm

theorem memWrite_alike (h : SameButIme s s') (a : Word) (v : Byte) :
    Alike SameButIme (memWrite s a v) (memWrite s' a v) := by
  obtain ⟨ime, rfl⟩ := h
  cases hr : regionOf a <;> simp only [memWrite, hr]
  case vram | oam | io => exact .error _
  all_goals exact .ok ⟨ime, rfl⟩

theorem memWrite16_alike (h : SameButIme s s') (a v : Word) :
    Alike SameButIme (memWrite16 s a v) (memWrite16 s' a v) :=
  .bind (memWrite_alike h a _) fun _ _ h₁ => memWrite_alike h₁ _ _

theorem push8_alike (h : SameButIme s s') (v : Byte) : Alike SameButIme (push8 s v) (push8 s' v) := by
  obtain ⟨ime, rfl⟩ := h
  exact memWrite_alike (.setSp ⟨ime, rfl⟩ _) _ v

theorem push16_alike (h : SameButIme s s') (v : Word) : Alike SameButIme (push16 s v) (push16 s' v) :=
  .bind (push8_alike h _) fun _ _ h₁ => push8_alike h₁ _

theorem pop8_alike (h : SameButIme s s') : Alike SameValue (pop8 s) (pop8 s') := by
  obtain ⟨ime, rfl⟩ := h
  exact .bind (memRead_alike ⟨ime, rfl⟩ _) fun | v, _, rfl => .ok (.mk v ⟨ime, rfl⟩)

theorem pop16_alike (h : SameButIme s s') : Alike SameValue (pop16 s) (pop16 s') :=
  .bind (pop8_alike h) fun | _, _, .mk _ h₁ => .bind (pop8_alike h₁) fun | _, _, .mk _ h₂ => .ok (.mk _ h₂)

theorem fetchByte_alike (h : SameButIme s s') : Alike SameValue (fetchByte s) (fetchByte s') := by
  obtain ⟨ime, rfl⟩ := h
  exact .bind (memRead_alike ⟨ime, rfl⟩ _) fun | v, _, rfl => .ok (.mk v ⟨ime, rfl⟩)

theorem readOpnd_alike (h : SameButIme s s') (o : Opnd8) : Alike Eq (readOpnd s o) (readOpnd s' o) := by
  obtain ⟨ime, rfl⟩ := h
  cases o with
  | reg r => exact .of_eq rfl
  | atHL => exact memRead_alike ⟨ime, rfl⟩ _

theorem writeOpnd_alike (h : SameButIme s s') (o : Opnd8) (v : Byte) :
    Alike SameButIme (writeOpnd s o v) (writeOpnd s' o v) := by
  obtain ⟨ime, rfl⟩ := h
  cases o with
  | reg r => exact .ok (.setReg ⟨ime, rfl⟩ r v)
  | atHL => exact memWrite_alike ⟨ime, rfl⟩ _ v

/-- An operand read, replaced and followed by a flag write: the shape of INC, DEC and the rotates. -/
theorem replaceOpnd_alike (h : SameButIme s s') (o : Opnd8) (res : Byte → Byte) (flags : Byte → FlagWrite) :
    Alike SameButIme
      (readOpnd s o >>= fun v => writeOpnd s o (res v) >>= fun t => pure (t.writeFlags (flags v)))
      (readOpnd s' o >>= fun v => writeOpnd s' o (res v) >>= fun t => pure (t.writeFlags (flags v))) :=
  .bind (readOpnd_alike h o) fun | _, _, rfl => .bind (writeOpnd_alike h o _) fun _ _ h₁ => .ok (h₁.writeFlags _)

/-! ## The shared operations of the meanings -/

theorem loadReg_alike (h : SameButIme s s') (dst : Reg8) (a : Word) :
    EndAlike (loadReg dst a s) (loadReg dst a s') :=
  .finish (.bind (memRead_alike h a) fun | v, _, rfl => .ok (h.setReg dst v))

theorem storeByte_alike (h : SameButIme s s') (a : Word) (v : Byte) :
    EndAlike (storeByte a v s) (storeByte a v s') :=
  .finish (memWrite_alike h a v)

theorem loadAStep_alike (h : SameButIme s s') (hl : Word) : EndAlike (loadAStep hl s) (loadAStep hl s') := by
  obtain ⟨ime, rfl⟩ := h
  exact .finish (.bind (memRead_alike ⟨ime, rfl⟩ _) fun | v, _, rfl => .ok (.setPair ⟨ime, rfl⟩ .hl hl))

theorem storeAStep_alike (h : SameButIme s s') (hl : Word) : EndAlike (storeAStep hl s) (storeAStep hl s') := by
  obtain ⟨ime, rfl⟩ := h
  exact .finish (.bind (memWrite_alike ⟨ime, rfl⟩ _ _) fun _ _ h₁ => .ok (h₁.setPair .hl hl))

theorem pushPair_alike (h : SameButIme s s') (q : Pair) : EndAlike (pushPair q s) (pushPair q s') := by
  obtain ⟨ime, rfl⟩ := h
  exact .finish (push16_alike ⟨ime, rfl⟩ _)

theorem popPair_alike (h : SameButIme s s') (q : Pair) : EndAlike (popPair q s) (popPair q s') :=
  .finish (.bind (pop16_alike h) fun | _, _, .mk v h₁ => .ok (h₁.setPair q v))

theorem aluOpnd_alike (h : SameButIme s s') (op : AluOp) (o : Opnd8) :
    EndAlike (aluOpnd op o s) (aluOpnd op o s') :=
  .finish (.bind (readOpnd_alike h o) fun | v, _, rfl => .ok (h.aluA op v))

theorem incOpnd_alike (h : SameButIme s s') (o : Opnd8) : EndAlike (incOpnd o s) (incOpnd o s') :=
  .finish (replaceOpnd_alike h o _ _)

theorem decOpnd_alike (h : SameButIme s s') (o : Opnd8) : EndAlike (decOpnd o s) (decOpnd o s') :=
  .finish (replaceOpnd_alike h o _ _)

theorem rotOpnd_alike (h : SameButIme s s') (op : RotOp) (o : Opnd8) :
    EndAlike (rotOpnd op o s) (rotOpnd op o s') := by
  obtain ⟨ime, rfl⟩ := h
  exact .finish (replaceOpnd_alike ⟨ime, rfl⟩ o _ _)

theorem bitOpnd_alike (h : SameButIme s s') (b : Fin 8) (o : Opnd8) :
    EndAlike (bitOpnd b o s) (bitOpnd b o s') :=
  .finish (.bind (readOpnd_alike h o) fun | _, _, rfl => .ok (h.writeFlags _))

theorem resOpnd_alike (h : SameButIme s s') (b : Fin 8) (o : Opnd8) :
    EndAlike (resOpnd b o s) (resOpnd b o s') :=
  .finish (.bind (readOpnd_alike h o) fun | _, _, rfl => writeOpnd_alike h o _)

theorem setOpnd_alike (h : SameButIme s s') (b : Fin 8) (o : Opnd8) :
    EndAlike (setOpnd b o s) (setOpnd b o s') :=
  .finish (.bind (readOpnd_alike h o) fun | _, _, rfl => writeOpnd_alike h o _)

theorem cbOnly_alike (h : SameButIme s s') {r r' : Result} (hr : EndAlike r r') :
    EndAlike (cbOnly s r) (cbOnly s' r') := by
  obtain ⟨ime, rfl⟩ := h
  exact .ite rfl hr (.fault _)

theorem jumpTo_alike (h : SameButIme s s') (target : Word) : EndAlike (jumpTo target s) (jumpTo target s') :=
  .next (h.setPc target)

theorem holds_alike (h : SameButIme s s') (cc : Cond) : s.holds cc = s'.holds cc := by
  obtain ⟨ime, rfl⟩ := h
  rfl

theorem jumpIf_alike (h : SameButIme s s') (cc : Cond) (target : Word) :
    EndAlike (jumpIf cc target s) (jumpIf cc target s') :=
  .ite (holds_alike h cc) (jumpTo_alike h target) (.next h)

theorem callTo_alike (h : SameButIme s s') (target : Word) : EndAlike (callTo target s) (callTo target s') := by
  obtain ⟨ime, rfl⟩ := h
  exact .finish (.bind (push16_alike ⟨ime, rfl⟩ _) fun _ _ h₁ => .ok (h₁.setPc target))

theorem callIf_alike (h : SameButIme s s') (cc : Cond) (target : Word) :
    EndAlike (callIf cc target s) (callIf cc target s') :=
  .ite (holds_alike h cc) (callTo_alike h target) (.next h)

theorem returnFrom_alike (h : SameButIme s s') : Alike SameButIme (returnFrom s) (returnFrom s') :=
  .bind (pop16_alike h) fun | _, _, .mk v h₁ => .ok (h₁.setPc v)

theorem returnIf_alike (h : SameButIme s s') (cc : Cond) : EndAlike (returnIf cc s) (returnIf cc s') :=
  .ite (holds_alike h cc) (.finish (returnFrom_alike h)) (.next h)

theorem runCbOpcode_alike (h : SameButIme s s') (o : Byte) : EndAlike (runCbOpcode o s) (runCbOpcode o s') := by
  unfold runCbOpcode
  generalize xField o = x
  match x with
  | 0 => exact rotOpnd_alike h _ _
  | 1 => exact bitOpnd_alike h _ _
  | 2 => exact resOpnd_alike h _ _
  | _ + 3 => exact setOpnd_alike h _ _

theorem exec_prefix_cb_alike (h : SameButIme s s') : EndAlike (exec_prefix_cb s) (exec_prefix_cb s') := by
  obtain ⟨ime, rfl⟩ := h
  refine .ite rfl ?_ (.fault _)
  have hf := fetchByte_alike (s := s) ⟨ime, rfl⟩
  generalize fetchByte s = x, fetchByte { s with ime := ime } = x' at hf ⊢
  cases hf with
  | ok hv =>
    cases hv with
    | mk o h₁ => exact runCbOpcode_alike h₁ o
  | error e => exact .fault e

/-! ## Every instruction -/

theorem exec_alike (h : SameButIme s s') (i : Instr) : EndAlike (exec i s) (exec i s') := by
  have hs := h
  obtain ⟨ime, rfl⟩ := h
  cases inFamily i with
  | undefinedOpcode i hk =>
    rw [exec_undefinedOpcode hk, exec_undefinedOpcode hk]
    exact .fault _
  | ldRegReg dst r => rw [exec_ldRegReg, exec_ldRegReg]; exact .next (hs.setReg dst _)
  | ldRegImm dst n8 => rw [exec_ldRegImm, exec_ldRegImm]; exact .next (hs.setReg dst n8)
  | ldReg16Imm p n16 => rw [exec_ldReg16Imm, exec_ldReg16Imm]; exact .next (hs.setReg16 p n16)
  | incReg16 p => rw [exec_incReg16, exec_incReg16]; exact .next (hs.setReg16 p _)
  | decReg16 p => rw [exec_decReg16, exec_decReg16]; exact .next (hs.setReg16 p _)
  | addHL p => rw [exec_addHL, exec_addHL]; exact .next ((hs.setPair .hl _).writeFlags _)
  | aluImm op n8 => rw [exec_aluImm, exec_aluImm]; exact .next (hs.aluA op n8)
  | ldRegAtHL dst => rw [exec_ldRegAtHL, exec_ldRegAtHL]; exact loadReg_alike hs dst _
  | ldAtHLReg r => rw [exec_ldAtHLReg, exec_ldAtHLReg]; exact storeByte_alike hs _ _
  | push q => rw [exec_push, exec_push]; exact pushPair_alike hs q
  | pop q => rw [exec_pop, exec_pop]; exact popPair_alike hs q
  | inc8 o => rw [exec_inc8, exec_inc8]; exact incOpnd_alike hs o
  | dec8 o => rw [exec_dec8, exec_dec8]; exact decOpnd_alike hs o
  | alu op o => rw [exec_alu, exec_alu]; exact aluOpnd_alike hs op o
  | jpCond cc a16 => rw [exec_jpCond, exec_jpCond]; exact jumpIf_alike hs cc a16
  | jrCond cc e8 => rw [exec_jrCond, exec_jrCond]; exact jumpIf_alike hs cc _
  | callCond cc a16 => rw [exec_callCond, exec_callCond]; exact callIf_alike hs cc a16
  | retCond cc => rw [exec_retCond, exec_retCond]; exact returnIf_alike hs cc
  | rst y => rw [exec_rst, exec_rst]; exact callTo_alike hs _
  | rot op o => rw [exec_rot, exec_rot]; exact cbOnly_alike hs (rotOpnd_alike hs op o)
  | bit b o => rw [exec_bit, exec_bit]; exact cbOnly_alike hs (bitOpnd_alike hs b o)
  | res b o => rw [exec_res, exec_res]; exact cbOnly_alike hs (resOpnd_alike hs b o)
  | set b o => rw [exec_set, exec_set]; exact cbOnly_alike hs (setOpnd_alike hs b o)
  | prefix_cb => exact exec_prefix_cb_alike hs
  | call_a16 a16 => exact callTo_alike hs a16
  | jr_e8 | jp_a16 | jp_atHL => exact jumpTo_alike hs _
  | ret => exact .finish (returnFrom_alike hs)
  | reti => exact .finish (.bind (returnFrom_alike hs) fun _ _ ⟨_, ht⟩ => .ok ⟨true, by rw [ht]⟩)
  | ld_atA16_sp a16 => exact .finish (memWrite16_alike hs a16 _)
  | ld_a_atHLInc | ld_a_atHLDec => exact loadAStep_alike hs _
  | ld_atHLInc_a | ld_atHLDec_a => exact storeAStep_alike hs _
  | ld_a_atBC | ld_a_atDE | ldh_a_atA8 | ld_a_atC | ld_a_atA16 => exact loadReg_alike hs .a _
  | ld_atBC_a | ld_atDE_a | ld_atHL_n8 | ldh_atA8_a | ld_atC_a | ld_atA16_a => exact storeByte_alike hs _ _
  | rlca | rrca | rla | rra | daa | cpl => exact .next ((hs.setReg .a _).writeFlags _)
  | scf | ccf => exact .next (hs.writeFlags _)
  | ld_hl_spE8 e8 => exact .next ((hs.setPair .hl _).writeFlags _)
  | add_sp_e8 e8 => exact .next ((hs.setSp _).writeFlags _)
  | ld_sp_hl => exact .next (hs.setSp _)
  | nop => exact .next hs
  | di => exact .next ⟨false, rfl⟩
  | ei => exact .next ⟨true, rfl⟩
  | halt | stop => exact .next ⟨ime, rfl⟩

/-! ## The step -/

theorem fetchOperands_alike (h : SameButIme s s') (n : Nat) :
    Alike (fun p p' => SameValue ((p.1, p.2.1), p.2.2) ((p'.1, p'.2.1), p'.2.2))
      (fetchOperands n s) (fetchOperands n s') := by
  match n with
  | 0 => exact .ok (.mk _ h)
  | 1 => exact .bind (fetchByte_alike h) fun | _, _, .mk _ h₁ => .ok (.mk _ h₁)
  | _ + 2 =>
    exact .bind (fetchByte_alike h) fun
      | _, _, .mk _ h₁ => .bind (fetchByte_alike h₁) fun | _, _, .mk _ h₂ => .ok (.mk _ h₂)

theorem fetchInstr_alike (h : SameButIme s s') : Alike SameValue (fetchInstr s) (fetchInstr s') := by
  obtain ⟨ime, rfl⟩ := h
  refine .bind (fetchByte_alike ⟨ime, rfl⟩) fun | _, _, .mk _ h₁ => .bind (fetchOperands_alike h₁ _) ?_
  rintro ⟨b1, b2, t⟩ ⟨_, _, t'⟩ ⟨_, h₂⟩
  exact .ok (.mk _ h₂)

/-- Halted and Stopped machines step to themselves (R92). -/
theorem step_of_not_running (hm : s.mode ≠ .running) : step s = .next s := by
  cases hs : s.mode with
  | running => exact absurd hs hm
  | halted | stopped => simp only [step, hs]

theorem step_alike (h : SameButIme s s') : EndAlike (step s) (step s') := by
  have hmode : s'.mode = s.mode := by
    obtain ⟨ime, rfl⟩ := h
    rfl
  by_cases hm : s.mode = .running
  · rw [step_running hm, step_running (hmode.trans hm)]
    have hf := fetchInstr_alike h
    generalize fetchInstr s = x, fetchInstr s' = x' at hf ⊢
    cases hf with
    | ok hv =>
      cases hv with
      | mk i h₁ => exact exec_alike h₁ i
    | error e => exact .fault e
  · rw [step_of_not_running hm, step_of_not_running (hmode ▸ hm)]
    exact .next h

/-- Settles O57: the two steps end alike, whatever IME is. -/
theorem imeIsNeverRead : Obligations.ImeIsNeverRead := by
  intro s ime
  have h : EndAlike (step s) (step { s with ime := ime }) := step_alike ⟨ime, rfl⟩
  generalize step s = r, step { s with ime := ime } = r' at h ⊢
  cases h with
  | next ht =>
    obtain ⟨ime', rfl⟩ := ht
    rfl
  | fault e => rfl

end Sys2Proof.Machine

/-! The instructions that write SP are the ones that R21 lists: every other one runs by operations that keep SP. -/

namespace Sys2Proof.Machine

/-- The instructions that R21 lists. -/
def WritesSp (i : Instr) : Prop :=
  (∃ n16, i = .ld_sp_n16 n16) ∨ i = .ld_sp_hl ∨ (∃ e8, i = .add_sp_e8 e8) ∨ i = .inc_sp ∨ i = .dec_sp ∨
  (∃ q, i = Instr.push q) ∨ (∃ q, i = Instr.pop q) ∨ (∃ a16, i = .call_a16 a16) ∨
  (∃ cc a16, i = Instr.callCond cc a16) ∨ i = .ret ∨ (∃ cc, i = Instr.retCond cc) ∨ i = .reti ∨
  (∃ y, i = Instr.rst y)

/-! ## The operations that keep SP -/

section
variable {s t : State} {v : Byte}

theorem setReg16_sp {p : Reg16} (hp : p ≠ .sp) (s : State) (v : Word) : (s.setReg16 p v).sp = s.sp := by
  cases p with
  | bc | de | hl => rfl
  | sp => exact absurd rfl hp

theorem memWrite_sp {a : Word} (h : memWrite s a v = .ok t) : t.sp = s.sp := by
  rw [memWrite_frame h]

theorem memWrite16_sp {a v : Word} (h : memWrite16 s a v = .ok t) : t.sp = s.sp := by
  unfold memWrite16 at h
  cases hlo : memWrite s a (loByte v) with
  | error e => simp [hlo, bind, Except.bind] at h
  | ok u =>
    rw [hlo] at h
    exact (memWrite_sp h).trans (memWrite_sp hlo)

theorem writeOpnd_sp {o : Opnd8} (h : writeOpnd s o v = .ok t) : t.sp = s.sp := by
  rcases writeOpnd_ok h with ⟨r, -, rfl⟩ | ⟨-, hw⟩
  · exact setReg_sp s r v
  · exact memWrite_sp hw

theorem loadReg_sp {dst : Reg8} {a : Word} (h : loadReg dst a s = .next t) : t.sp = s.sp := by
  obtain ⟨v, -, rfl⟩ := loadReg_next.1 h
  exact setReg_sp s dst v

theorem storeByte_sp {a : Word} (h : storeByte a v s = .next t) : t.sp = s.sp :=
  memWrite_sp (storeByte_next.1 h)

theorem loadAStep_sp {hl : Word} (h : loadAStep hl s = .next t) : t.sp = s.sp := by
  obtain ⟨v, -, rfl⟩ := loadAStep_next.1 h
  rfl

theorem storeAStep_sp {hl : Word} (h : storeAStep hl s = .next t) : t.sp = s.sp := by
  obtain ⟨u, hw, rfl⟩ := storeAStep_next.1 h
  exact (setPair_sp u .hl hl).trans (memWrite_sp hw)

theorem aluA_sp (op : AluOp) (v : Byte) (s : State) : (aluA op v s).sp = s.sp := by
  rw [aluA_frame]

theorem aluOpnd_sp {op : AluOp} {o : Opnd8} (h : aluOpnd op o s = .next t) : t.sp = s.sp := by
  obtain ⟨v, -, rfl⟩ := aluOpnd_next.1 h
  exact aluA_sp op v s

theorem incOpnd_sp {o : Opnd8} (h : incOpnd o s = .next t) : t.sp = s.sp := by
  obtain ⟨v, -, u, hw, rfl⟩ := incOpnd_next.1 h
  exact (writeFlags_sp u _).trans (writeOpnd_sp hw)

theorem decOpnd_sp {o : Opnd8} (h : decOpnd o s = .next t) : t.sp = s.sp := by
  obtain ⟨v, -, u, hw, rfl⟩ := decOpnd_next.1 h
  exact (writeFlags_sp u _).trans (writeOpnd_sp hw)

theorem jumpIf_sp {cc : Cond} {target : Word} (h : jumpIf cc target s = .next t) : t.sp = s.sp := by
  unfold jumpIf at h
  split at h
  · cases h
    rfl
  · cases h
    rfl

theorem exec_rot_sp {op : RotOp} {o : Opnd8} (h : exec (Instr.rot op o) s = .next t) : t.sp = s.sp := by
  rw [exec_rot, cbOnly_next, rotOpnd_next] at h
  obtain ⟨-, v, -, u, hw, rfl⟩ := h
  exact (writeFlags_sp u _).trans (writeOpnd_sp hw)

theorem exec_bit_sp {b : Fin 8} {o : Opnd8} (h : exec (Instr.bit b o) s = .next t) : t.sp = s.sp := by
  rw [exec_bit, cbOnly_next, bitOpnd_next] at h
  obtain ⟨-, v, -, rfl⟩ := h
  rfl

theorem exec_res_sp {b : Fin 8} {o : Opnd8} (h : exec (Instr.res b o) s = .next t) : t.sp = s.sp := by
  rw [exec_res, cbOnly_next, resOpnd_next] at h
  obtain ⟨-, v, -, hw⟩ := h
  exact writeOpnd_sp hw

theorem exec_set_sp {b : Fin 8} {o : Opnd8} (h : exec (Instr.set b o) s = .next t) : t.sp = s.sp := by
  rw [exec_set, cbOnly_next, setOpnd_next] at h
  obtain ⟨-, v, -, hw⟩ := h
  exact writeOpnd_sp hw

/-- The 0xCB byte keeps SP: the rule that it selects is of a family that does, run with PC one higher (R181). -/
theorem exec_prefix_cb_sp (h : exec .prefix_cb s = .next t) : t.sp = s.sp := by
  obtain ⟨o, -, -, hrun⟩ := exec_prefix_cb_next h
  revert hrun
  exact decodeCb_family (P := fun i => exec i { s with pc := s.pc + 1#16 } = .next t → t.sp = s.sp) o
    (fun _ _ => exec_rot_sp) (fun _ _ => exec_bit_sp) (fun _ _ => exec_res_sp) (fun _ _ => exec_set_sp)

end

/-! ## Every instruction -/

theorem exec_keeps_sp {i : Instr} {s t : State} (hi : ¬ WritesSp i) (h : exec i s = .next t) : t.sp = s.sp := by
  cases inFamily i with
  | push | pop | callCond | retCond | rst | call_a16 | ret | reti | add_sp_e8 | ld_sp_hl => simp [WritesSp] at hi
  | undefinedOpcode i hk =>
    rw [exec_undefinedOpcode hk] at h
    cases h
  | ldReg16Imm p n16 =>
    have hp : p ≠ .sp := by
      rintro rfl
      exact hi (.inl ⟨n16, rfl⟩)
    rw [exec_ldReg16Imm] at h
    cases h
    exact setReg16_sp hp s n16
  | incReg16 p =>
    have hp : p ≠ .sp := by
      rintro rfl
      exact hi (.inr (.inr (.inr (.inl rfl))))
    rw [exec_incReg16] at h
    cases h
    exact setReg16_sp hp s _
  | decReg16 p =>
    have hp : p ≠ .sp := by
      rintro rfl
      exact hi (.inr (.inr (.inr (.inr (.inl rfl)))))
    rw [exec_decReg16] at h
    cases h
    exact setReg16_sp hp s _
  | ldRegReg dst r =>
    rw [exec_ldRegReg] at h
    cases h
    exact setReg_sp s dst _
  | ldRegImm dst n8 =>
    rw [exec_ldRegImm] at h
    cases h
    exact setReg_sp s dst n8
  | addHL p =>
    rw [exec_addHL] at h
    cases h
    rfl
  | aluImm op n8 =>
    rw [exec_aluImm] at h
    cases h
    exact aluA_sp op n8 s
  | ldRegAtHL dst => exact loadReg_sp (exec_ldRegAtHL dst s ▸ h)
  | ldAtHLReg r => exact storeByte_sp (exec_ldAtHLReg r s ▸ h)
  | inc8 o => exact incOpnd_sp (exec_inc8 o s ▸ h)
  | dec8 o => exact decOpnd_sp (exec_dec8 o s ▸ h)
  | alu op o => exact aluOpnd_sp (exec_alu op o s ▸ h)
  | jpCond cc a16 => exact jumpIf_sp (exec_jpCond cc a16 s ▸ h)
  | jrCond cc e8 => exact jumpIf_sp (exec_jrCond cc e8 s ▸ h)
  | rot => exact exec_rot_sp h
  | bit => exact exec_bit_sp h
  | res => exact exec_res_sp h
  | set => exact exec_set_sp h
  | prefix_cb => exact exec_prefix_cb_sp h
  | ld_atA16_sp a16 => exact memWrite16_sp (finish_eq_next.1 h)
  | ld_a_atHLInc | ld_a_atHLDec => exact loadAStep_sp h
  | ld_atHLInc_a | ld_atHLDec_a => exact storeAStep_sp h
  | ld_a_atBC | ld_a_atDE | ldh_a_atA8 | ld_a_atC | ld_a_atA16 => exact loadReg_sp h
  | ld_atBC_a | ld_atDE_a | ld_atHL_n8 | ldh_atA8_a | ld_atC_a | ld_atA16_a => exact storeByte_sp h
  | nop | stop | halt | di | ei | rlca | rrca | rla | rra | daa | cpl | scf | ccf | jr_e8 | jp_a16 | jp_atHL
  | ld_hl_spE8 =>
    cases h
    rfl

/-- Settles O55: an instruction that R21 does not list keeps SP. -/
theorem onlyListedInstructionsWriteSp : Obligations.OnlyListedInstructionsWriteSp :=
  fun i _ _ h hne => by_contra fun hi : ¬ WritesSp i => hne (exec_keeps_sp hi h)

end Sys2Proof.Machine

/-! The address map and the accesses to memory: what a byte and a word read or written give, address by address. -/

namespace Sys2Proof.Machine

open Sys2Proof.Spec

/-! ## The address map (R35) -/

theorem exists_row_of_regionOf (a : Word) :
    ∃ row ∈ addressMap, (row.1 ≤ a.toNat ∧ a.toNat ≤ row.2.1) ∧ regionOf a = row.2.2 := by
  have ha := a.isLt
  unfold regionOf
  split_ifs <;> simp [addressMap] <;> omega

theorem row_eq_of_overlap :
    ∀ row ∈ addressMap, ∀ row' ∈ addressMap, row.1 ≤ row'.2.1 → row'.1 ≤ row.2.1 → row' = row := by
  decide

theorem row_eq_of_region :
    ∀ row ∈ addressMap, ∀ row' ∈ addressMap, row.2.2 = row'.2.2 → row' = row := by
  decide

/-- Settles O13: an address is in the row of its region, and no two rows overlap. -/
theorem addressMapIsPartition : Obligations.AddressMapIsPartition := by
  intro a
  obtain ⟨row, hrow, hin, hr⟩ := exists_row_of_regionOf a
  exact ⟨row, hrow, hin, hr, fun row' hrow' hfirst hlast =>
    row_eq_of_overlap row hrow row' hrow' (hin.1.trans hlast) (hfirst.trans hin.2)⟩

/-- The region of an address is that of the row that holds it. -/
theorem regionOf_eq_iff {first last : Nat} {r : Region} (h : (first, last, r) ∈ addressMap) (a : Word) :
    regionOf a = r ↔ first ≤ a.toNat ∧ a.toNat ≤ last := by
  obtain ⟨row, hrow, hin, hr⟩ := exists_row_of_regionOf a
  constructor
  · intro ha
    cases row_eq_of_region row hrow _ h (hr.symm.trans ha)
    exact hin
  · rintro ⟨hfirst, hlast⟩
    cases row_eq_of_overlap row hrow _ h (hin.1.trans hlast) (hfirst.trans hin.2)
    exact hr

/-- The RAM arrays are ERAM, WRAM and HRAM (R31). -/
theorem regionOf_isRam_iff (a : Word) :
    (regionOf a).isRam = true ↔
      (0xA000 ≤ a.toNat ∧ a.toNat ≤ 0xDFFF) ∨ (0xFF80 ≤ a.toNat ∧ a.toNat ≤ 0xFFFE) := by
  unfold regionOf
  split_ifs <;> simp only [Region.isRam] <;> simp <;> omega

theorem regionOf_stores_iff (a : Word) : (regionOf a).stores = true ↔ Storage a := by
  have ha := a.isLt
  unfold regionOf Storage
  split_ifs <;> simp only [Region.stores, Region.isRam] <;> simp <;> omega

theorem not_unsupported_of_storage {a : Word} (h : Storage a) : ¬ Unsupported a := by
  unfold Storage at h
  unfold Unsupported
  omega

/-! ## A byte read (R36) -/

theorem memRead_rom {s : State} {a : Word} (h : regionOf a = .rom) :
    memRead s a =
      if a.toNat < s.cfg.romLen then .ok (Memory.read s.cfg.rom a.toNat)
      else .error (.unsupportedAddress a .read) := by
  by_cases hlen : a.toNat < s.cfg.romLen <;> simp [memRead, h, romByte?, hlen]

theorem memRead_unsupported {s : State} {a : Word} (h : Unsupported a) :
    memRead s a = .error (.unsupportedAddress a .read) := by
  have hu := (regionOf_isUnsupported_iff a).2 h
  cases hr : regionOf a <;> simp [memRead, hr, Region.isUnsupported] at hu ⊢

theorem memRead_ram {s : State} {a : Word} (h : (regionOf a).isRam = true) :
    memRead s a = .ok (Memory.read s.mem a.toNat) := by
  cases hr : regionOf a <;> simp [memRead, hr, Region.isRam] at h ⊢

/-- ECHO and the unusable range read as zero (R41). -/
theorem memRead_reserved {s : State} {a : Word} (h : regionOf a = .echo ∨ regionOf a = .unusable) :
    memRead s a = .ok 0x00#8 := by
  rcases h with h | h <;> simp [memRead, h]

/-- Settles O14, region by region. -/
theorem readByteFollowsAddressMap : Obligations.ReadByteFollowsAddressMap := by
  intro s a
  have hrom (h : a.toNat ≤ 0x7FFF) : regionOf a = .rom :=
    (regionOf_eq_iff (first := 0) (last := 0x7FFF) (by decide) a).2 ⟨Nat.zero_le _, h⟩
  refine ⟨fun h hlen => ?_, fun h hlen => ?_, memRead_unsupported, fun h₁ h₂ => ?_, fun h₁ h₂ => ?_,
    fun h₁ h₂ => ?_, fun h₁ h₂ => ?_, fun h => ?_⟩
  · rw [memRead_rom (hrom h), if_pos hlen]
  · rw [memRead_rom (hrom h), if_neg (Nat.not_lt.2 hlen)]
  · exact memRead_ram ((regionOf_isRam_iff a).2 (.inl ⟨h₁, h₂⟩))
  · exact memRead_reserved (.inl ((regionOf_eq_iff (by decide) a).2 ⟨h₁, h₂⟩))
  · exact memRead_reserved (.inr ((regionOf_eq_iff (by decide) a).2 ⟨h₁, h₂⟩))
  · exact memRead_ram ((regionOf_isRam_iff a).2 (.inr ⟨h₁, h₂⟩))
  · have hie : regionOf a = .ie := (regionOf_eq_iff (by decide) a).2 ⟨h.ge, h.le⟩
    simp [memRead, hie]

/-! ## A byte written (R37) -/

theorem memWrite_of_unsupported {a : Word} (h : Unsupported a) (s : State) (v : Byte) :
    memWrite s a v = .error (.unsupportedAddress a .write) :=
  memWrite_unsupported s v ((regionOf_isUnsupported_iff a).2 h)

theorem memWrite_of_supported {a : Word} (h : ¬ Unsupported a) (s : State) (v : Byte) :
    ∃ t, memWrite s a v = .ok t := by
  rwa [memWrite_isOk_iff, ← Bool.not_eq_true, regionOf_isUnsupported_iff]

theorem memWrite_byteStored {s t : State} {a : Word} {v : Byte} (h : memWrite s a v = .ok t) :
    ByteStored s t a v := by
  refine ⟨memWrite_frame h, fun x hx => ?_, ⟨fun hst => ?_, fun hst => ?_⟩, fun hst => ?_⟩
  · rw [memRead_memWrite h, if_neg (fun hc => hx hc.1)]
  · rw [memRead_memWrite h, if_pos ⟨rfl, (regionOf_stores_iff a).2 hst⟩]
  · rw [memRead_memWrite h, if_neg (fun hc => hst ((regionOf_stores_iff a).1 hc.2))]
  · rw [← regionOf_stores_iff] at hst
    rcases memWrite_ok h with ⟨hram, -⟩ | ⟨hie, -⟩ | ⟨-, -, rfl⟩
    · simp [Region.stores, hram] at hst
    · simp [Region.stores, hie] at hst
    · rfl

/-- Settles O15: a write succeeds outside VRAM, OAM and IO, and then has the effect of one byte. -/
theorem writeByteFollowsAddressMap : Obligations.WriteByteFollowsAddressMap := by
  refine fun s a v => ⟨fun h => memWrite_of_unsupported h s v, fun h => ?_⟩
  obtain ⟨t, ht⟩ := memWrite_of_supported h s v
  exact ⟨t, ht, memWrite_byteStored ht⟩

end Sys2Proof.Machine

/-! Words in memory: two byte accesses one after the other, for the word accesses and for the stack. -/

namespace Sys2Proof.Machine

open Sys2Proof.Spec

/-! ## Two bytes written -/

/-- A byte written at `x` and then one at another address `y`: the two effects stand beside each other. -/
theorem byteStored_both {s u t : State} {x y : Word} {v w : Byte} (h₁ : ByteStored s u x v)
    (h₂ : ByteStored u t y w) (hxy : x ≠ y) :
    t = { s with mem := t.mem, ie := t.ie } ∧ (∀ a, a ≠ x → a ≠ y → memRead t a = memRead s a) ∧
      HoldsAfter s t x v ∧ HoldsAfter s t y w := by
  obtain ⟨hf₁, hother₁, ⟨hst₁, hdis₁⟩, -⟩ := h₁
  obtain ⟨hf₂, hother₂, ⟨hst₂, hdis₂⟩, -⟩ := h₂
  refine ⟨?_, fun a hx hy => (hother₂ a hy).trans (hother₁ a hx), ⟨fun h => ?_, fun h => ?_⟩,
    hst₂, fun h => ?_⟩
  · rw [hf₂, hf₁]
  · rw [hother₂ x hxy, hst₁ h]
  · rw [hother₂ x hxy, hdis₁ h]
  · rw [hdis₂ h, hother₁ y hxy.symm]

theorem add_one_ne (a : Word) : a + 1#16 ≠ a := by
  simp

theorem sub_two_add_one (a : Word) : a - 2#16 + 1#16 = a - 1#16 := by
  bv_omega

/-! ## The word accesses -/

theorem memRead16_ok {s : State} {a : Word} {lo hi : Byte} (hlo : memRead s a = .ok lo)
    (hhi : memRead s (a + 1#16) = .ok hi) : memRead16 s a = .ok (concat hi lo) := by
  simp only [memRead16, hlo, hhi, bind, Except.bind, pure, Except.pure]

theorem memWrite16_eq_ok {s t : State} {a v : Word} :
    memWrite16 s a v = .ok t ↔
      ∃ u, memWrite s a (loByte v) = .ok u ∧ memWrite u (a + 1#16) (hiByte v) = .ok t := by
  unfold memWrite16
  cases memWrite s a (loByte v) <;> simp [bind, Except.bind]

theorem memWrite16_wordStored {s t : State} {a v : Word} (h : memWrite16 s a v = .ok t) : WordStored s t a v := by
  obtain ⟨u, hlo, hhi⟩ := memWrite16_eq_ok.1 h
  exact byteStored_both (memWrite_byteStored hlo) (memWrite_byteStored hhi) (add_one_ne a).symm

theorem memWrite16_of_supported {a : Word} (h : ¬ Unsupported a) (h' : ¬ Unsupported (a + 1#16)) (s : State)
    (v : Word) : ∃ t, memWrite16 s a v = .ok t := by
  obtain ⟨u, hu⟩ := memWrite_of_supported h s (loByte v)
  obtain ⟨t, ht⟩ := memWrite_of_supported h' u (hiByte v)
  exact ⟨t, memWrite16_eq_ok.2 ⟨u, hu, ht⟩⟩

theorem memWrite16_error {a : Word} {e : Fault} (h : firstWriteFault a (a + 1#16) e) (s : State) (v : Word) :
    memWrite16 s a v = .error e := by
  unfold memWrite16
  rcases h with ⟨hlo, rfl⟩ | ⟨hlo, hhi, rfl⟩
  · rw [memWrite_of_unsupported hlo]
    rfl
  · obtain ⟨u, hu⟩ := memWrite_of_supported hlo s (loByte v)
    rw [hu]
    exact memWrite_of_unsupported hhi u _

/-- Settles O16: each word access is the composition of its two byte accesses. -/
theorem wordAccessIsLittleEndian : Obligations.WordAccessIsLittleEndian := by
  refine ⟨fun s a lo hi => memRead16_ok, fun s a e h => ?_, fun s a lo e hlo hhi => ?_,
    fun s a v h h' => ?_, fun s a v e h => memWrite16_error h s v⟩
  · simp only [memRead16, h, bind, Except.bind]
  · simp only [memRead16, hlo, hhi, bind, Except.bind]
  · obtain ⟨t, ht⟩ := memWrite16_of_supported h h' s v
    exact ⟨t, ht, memWrite16_wordStored ht⟩

/-! ## The stack -/

theorem push16_of_supported {s : State} (h₁ : ¬ Unsupported (s.sp - 1#16)) (h₂ : ¬ Unsupported (s.sp - 2#16))
    (v : Word) : ∃ t, push16 s v = .ok t := by
  obtain ⟨u, hu⟩ := memWrite_of_supported h₁ s (hiByte v)
  obtain ⟨t, ht⟩ := memWrite_of_supported h₂ u (loByte v)
  exact ⟨{ t with sp := s.sp - 2#16 }, by simp [push16_eq, hu, ht, Except.bind]⟩

/-- A push has the effect of its word written two bytes below SP, with SP moved there (R48). -/
theorem push16_wordStored {s t : State} {v : Word} (h : push16 s v = .ok t) :
    WordStored { s with sp := s.sp - 2#16 } t (s.sp - 2#16) v := by
  obtain ⟨-, u, w, hhi, hlo, rfl⟩ := push16_ok h
  obtain ⟨hf, hother, hhi', hlo'⟩ := byteStored_both (memWrite_byteStored hhi) (memWrite_byteStored hlo)
    (sub_two_add_one s.sp ▸ add_one_ne (s.sp - 2#16))
  have hsp (r : State) (a : Word) : memRead { r with sp := s.sp - 2#16 } a = memRead r a :=
    memRead_congr rfl rfl rfl a
  simp only [WordStored, HoldsAfter, hsp, sub_two_add_one]
  exact ⟨by rw [hf], fun a h₁ h₂ => hother a h₂ h₁, hlo', hhi'⟩

/-- Settles O17: the two bytes that the push stored are the two that the pop reads. -/
theorem popReturnsThePushedWord : Obligations.PopReturnsThePushedWord := by
  intro s v h₁ h₂
  obtain ⟨t, ht⟩ := push16_of_supported (not_unsupported_of_storage h₁) (not_unsupported_of_storage h₂) v
  obtain ⟨hframe, -, ⟨hlo, -⟩, ⟨hhi, -⟩⟩ := push16_wordStored ht
  have hsp : t.sp = s.sp - 2#16 := by rw [hframe]
  replace hlo : memRead t t.sp = .ok (loByte v) := hsp ▸ hlo h₂
  replace hhi : memRead t (t.sp + 1#16) = .ok (hiByte v) := by
    rw [hsp]
    exact hhi (by rwa [sub_two_add_one])
  refine ⟨t, ht, hsp, ?_, ?_⟩
  · rw [memRead16_ok hlo hhi, concat_hiByte_loByte]
  · rw [pop16_ok hlo hhi, concat_hiByte_loByte, hsp, BitVec.sub_add_cancel]

end Sys2Proof.Machine

/-! The instructions that store to memory are the ones that the rules name: every other one runs by operations after
which every address reads as before. -/

namespace Sys2Proof.Machine

/-- The instructions that store to memory, and the 0xCB byte, which runs some of them (R37, R181). -/
def StoresMemory (i : Instr) : Prop :=
  (∃ r, i = Instr.ldAtHLReg r) ∨ (∃ n8, i = .ld_atHL_n8 n8) ∨ i = .ld_atHLInc_a ∨ i = .ld_atHLDec_a ∨
  i = .ld_atBC_a ∨ i = .ld_atDE_a ∨ (∃ a16, i = .ld_atA16_a a16) ∨ (∃ a8, i = .ldh_atA8_a a8) ∨
  i = .ld_atC_a ∨ (∃ a16, i = .ld_atA16_sp a16) ∨ (∃ q, i = Instr.push q) ∨
  i = .inc_atHL ∨ i = .dec_atHL ∨ (∃ op, i = Instr.rot op .atHL) ∨ (∃ b, i = Instr.res b .atHL) ∨
  (∃ b, i = Instr.set b .atHL) ∨ (∃ a16, i = .call_a16 a16) ∨ (∃ cc a16, i = Instr.callCond cc a16) ∨
  (∃ y, i = Instr.rst y) ∨ i = .prefix_cb

/-- Every address reads in `t` as in `s`. -/
def SameMemory (s t : State) : Prop := ∀ a, memRead t a = memRead s a

/-! ## The operations that store nothing -/

section
variable {s t : State}

theorem SameMemory.of_fields (hm : t.mem = s.mem) (hi : t.ie = s.ie) (hc : t.cfg = s.cfg) : SameMemory s t :=
  memRead_congr hm hi hc

theorem SameMemory.writeFlags (h : SameMemory s t) (w : FlagWrite) : SameMemory s (t.writeFlags w) :=
  fun a => (memRead_writeFlags t w a).trans (h a)

theorem setReg16_sameMemory (s : State) (p : Reg16) (v : Word) : SameMemory s (s.setReg16 p v) :=
  .of_fields (setReg16_mem s p v) (setReg16_ie s p v) (setReg16_cfg s p v)

theorem writeOpnd_reg_sameMemory {r : Reg8} {v : Byte} (h : writeOpnd s (.reg r) v = .ok t) : SameMemory s t := by
  cases h
  exact memRead_setReg s r v

theorem loadReg_sameMemory {dst : Reg8} {a : Word} (h : loadReg dst a s = .next t) : SameMemory s t := by
  obtain ⟨v, -, rfl⟩ := loadReg_next.1 h
  exact memRead_setReg s dst v

theorem loadAStep_sameMemory {hl : Word} (h : loadAStep hl s = .next t) : SameMemory s t := by
  obtain ⟨v, -, rfl⟩ := loadAStep_next.1 h
  exact .of_fields rfl rfl rfl

theorem aluA_sameMemory (op : AluOp) (v : Byte) (s : State) : SameMemory s (aluA op v s) := by
  rw [aluA_frame]
  exact .of_fields rfl rfl rfl

theorem aluOpnd_sameMemory {op : AluOp} {o : Opnd8} (h : aluOpnd op o s = .next t) : SameMemory s t := by
  obtain ⟨v, -, rfl⟩ := aluOpnd_next.1 h
  exact aluA_sameMemory op v s

theorem incOpnd_reg_sameMemory {r : Reg8} (h : incOpnd (.reg r) s = .next t) : SameMemory s t := by
  obtain ⟨v, -, u, hw, rfl⟩ := incOpnd_next.1 h
  exact (writeOpnd_reg_sameMemory hw).writeFlags _

theorem decOpnd_reg_sameMemory {r : Reg8} (h : decOpnd (.reg r) s = .next t) : SameMemory s t := by
  obtain ⟨v, -, u, hw, rfl⟩ := decOpnd_next.1 h
  exact (writeOpnd_reg_sameMemory hw).writeFlags _

theorem rotOpnd_reg_sameMemory {op : RotOp} {r : Reg8} (h : rotOpnd op (.reg r) s = .next t) :
    SameMemory s t := by
  obtain ⟨v, -, u, hw, rfl⟩ := rotOpnd_next.1 h
  exact (writeOpnd_reg_sameMemory hw).writeFlags _

theorem bitOpnd_sameMemory {b : Fin 8} {o : Opnd8} (h : bitOpnd b o s = .next t) : SameMemory s t := by
  obtain ⟨v, -, rfl⟩ := bitOpnd_next.1 h
  exact memRead_writeFlags s _

theorem resOpnd_reg_sameMemory {b : Fin 8} {r : Reg8} (h : resOpnd b (.reg r) s = .next t) : SameMemory s t := by
  obtain ⟨v, -, hw⟩ := resOpnd_next.1 h
  exact writeOpnd_reg_sameMemory hw

theorem setOpnd_reg_sameMemory {b : Fin 8} {r : Reg8} (h : setOpnd b (.reg r) s = .next t) : SameMemory s t := by
  obtain ⟨v, -, hw⟩ := setOpnd_next.1 h
  exact writeOpnd_reg_sameMemory hw

theorem jumpIf_sameMemory {cc : Cond} {target : Word} (h : jumpIf cc target s = .next t) : SameMemory s t := by
  unfold jumpIf at h
  split at h
  · cases h
    exact .of_fields rfl rfl rfl
  · cases h
    exact .of_fields rfl rfl rfl

theorem returnFrom_sameMemory (h : returnFrom s = .ok t) : SameMemory s t := by
  obtain ⟨⟨v, u⟩, hp, rfl⟩ := returnFrom_ok.1 h
  obtain ⟨lo, hi, -, -, -, rfl⟩ := pop16_inv hp
  exact .of_fields rfl rfl rfl

theorem returnIf_sameMemory {cc : Cond} (h : returnIf cc s = .next t) : SameMemory s t := by
  unfold returnIf at h
  split at h
  · exact returnFrom_sameMemory (finish_eq_next.1 h)
  · cases h
    exact .of_fields rfl rfl rfl

theorem popPair_sameMemory {q : Pair} (h : popPair q s = .next t) : SameMemory s t := by
  obtain ⟨⟨v, u⟩, hp, rfl⟩ := popPair_next.1 h
  obtain ⟨lo, hi, -, -, -, rfl⟩ := pop16_inv hp
  exact memRead_setPair _ q v

end

/-! ## Every instruction -/

theorem exec_keeps_memory {i : Instr} {s t : State} (hi : ¬ StoresMemory i) (h : exec i s = .next t) :
    SameMemory s t := by
  cases inFamily i with
  | ldAtHLReg | ld_atHL_n8 | ld_atHLInc_a | ld_atHLDec_a | ld_atBC_a | ld_atDE_a | ld_atA16_a | ldh_atA8_a
  | ld_atC_a | ld_atA16_sp | push | call_a16 | callCond | rst | prefix_cb => simp [StoresMemory] at hi
  | undefinedOpcode i hk =>
    rw [exec_undefinedOpcode hk] at h
    cases h
  | inc8 o =>
    cases o with
    | reg r => exact incOpnd_reg_sameMemory (exec_inc8 _ s ▸ h)
    | atHL => simp [StoresMemory, Instr.inc8] at hi
  | dec8 o =>
    cases o with
    | reg r => exact decOpnd_reg_sameMemory (exec_dec8 _ s ▸ h)
    | atHL => simp [StoresMemory, Instr.dec8] at hi
  | rot op o =>
    cases o with
    | reg r => exact rotOpnd_reg_sameMemory (cbOnly_next.1 (exec_rot op _ s ▸ h)).2
    | atHL => simp [StoresMemory, show ∃ x, Instr.rot op .atHL = Instr.rot x .atHL from ⟨op, rfl⟩] at hi
  | res b o =>
    cases o with
    | reg r => exact resOpnd_reg_sameMemory (cbOnly_next.1 (exec_res b _ s ▸ h)).2
    | atHL => simp [StoresMemory, show ∃ x, Instr.res b .atHL = Instr.res x .atHL from ⟨b, rfl⟩] at hi
  | set b o =>
    cases o with
    | reg r => exact setOpnd_reg_sameMemory (cbOnly_next.1 (exec_set b _ s ▸ h)).2
    | atHL => simp [StoresMemory, show ∃ x, Instr.set b .atHL = Instr.set x .atHL from ⟨b, rfl⟩] at hi
  | bit b o => exact bitOpnd_sameMemory (cbOnly_next.1 (exec_bit b o s ▸ h)).2
  | ldRegReg dst r =>
    rw [exec_ldRegReg] at h
    cases h
    exact memRead_setReg s dst _
  | ldRegImm dst n8 =>
    rw [exec_ldRegImm] at h
    cases h
    exact memRead_setReg s dst n8
  | ldReg16Imm p n16 =>
    rw [exec_ldReg16Imm] at h
    cases h
    exact setReg16_sameMemory s p n16
  | incReg16 p =>
    rw [exec_incReg16] at h
    cases h
    exact setReg16_sameMemory s p _
  | decReg16 p =>
    rw [exec_decReg16] at h
    cases h
    exact setReg16_sameMemory s p _
  | addHL p =>
    rw [exec_addHL] at h
    cases h
    exact .of_fields rfl rfl rfl
  | aluImm op n8 =>
    rw [exec_aluImm] at h
    cases h
    exact aluA_sameMemory op n8 s
  | ldRegAtHL dst => exact loadReg_sameMemory (exec_ldRegAtHL dst s ▸ h)
  | pop q => exact popPair_sameMemory (exec_pop q s ▸ h)
  | alu op o => exact aluOpnd_sameMemory (exec_alu op o s ▸ h)
  | jpCond cc a16 => exact jumpIf_sameMemory (exec_jpCond cc a16 s ▸ h)
  | jrCond cc e8 => exact jumpIf_sameMemory (exec_jrCond cc e8 s ▸ h)
  | retCond cc => exact returnIf_sameMemory (exec_retCond cc s ▸ h)
  | ret => exact returnFrom_sameMemory (finish_eq_next.1 h)
  | reti =>
    obtain ⟨u, hret, rfl⟩ := exec_reti_next.1 h
    exact (returnFrom_sameMemory hret :)
  | ld_a_atHLInc | ld_a_atHLDec => exact loadAStep_sameMemory h
  | ld_a_atBC | ld_a_atDE | ldh_a_atA8 | ld_a_atC | ld_a_atA16 => exact loadReg_sameMemory h
  | nop | stop | halt | di | ei | rlca | rrca | rla | rra | daa | cpl | scf | ccf | jr_e8 | jp_a16 | jp_atHL
  | add_sp_e8 | ld_hl_spE8 | ld_sp_hl =>
    cases h
    exact .of_fields rfl rfl rfl

/-- Settles O56: an instruction that is not of the storing forms leaves every address reading as it did. -/
theorem onlyStoringInstructionsWriteMemory : Obligations.OnlyStoringInstructionsWriteMemory := by
  rintro i s t h ⟨a, ha⟩
  exact by_contra fun hi : ¬ StoresMemory i => ha (exec_keeps_memory hi h a)

end Sys2Proof.Machine

/-! The header checksum (R59): the sum that the recurrence computes, and that it tells a list of bytes from the same
list with one byte changed. -/

namespace Sys2Proof.Machine

/-! ## The verification -/

theorem verifyHeaderChecksum_short {cfg : Config} (h : cfg.romLen < 0x14E) :
    verifyHeaderChecksum cfg = .error .malformedCartridge := by
  unfold verifyHeaderChecksum
  by_cases hrange : cfg.romLen < 0x134 + 25
  · rw [headerBytes_short 25 0x134 (by decide) hrange]
    rfl
  · rw [headerBytes_ok 25 0x134 (Nat.not_lt.1 hrange), headerByte_short (by omega)]
    rfl

theorem verifyHeaderChecksum_ok {cfg : Config} (h : 0x14E ≤ cfg.romLen) :
    verifyHeaderChecksum cfg =
      .ok (checksumOf 0#8 ((List.range' 0x134 25).map (Memory.read cfg.rom)) == Memory.read cfg.rom 0x14D) := by
  unfold verifyHeaderChecksum
  rw [headerBytes_ok 25 0x134 (by omega), headerByte_ok h]
  rfl

/-! ## The checksum as a sum -/

theorem checksumOf_eq_sub_sum (x : Byte) (bytes : List Byte) :
    checksumOf x bytes = x + BitVec.ofInt 8 (-(bytes.map fun v => (v.toNat : Int)).sum - bytes.length) := by
  induction bytes generalizing x with
  | nil => simp [checksumOf]
  | cons v rest ih =>
    have hv : BitVec.ofInt 8 v.toNat = v := by simp
    have hsum : -(((v :: rest).map fun v => (v.toNat : Int)).sum) - ((v :: rest).length : Int) =
        -(v.toNat : Int) + (-1 + (-(rest.map fun v => (v.toNat : Int)).sum - rest.length)) := by
      simp only [List.map_cons, List.sum_cons, List.length_cons]
      omega
    rw [checksumOf, ih, hsum, BitVec.ofInt_add, BitVec.ofInt_add, BitVec.ofInt_neg, hv]
    simp only [BitVec.sub_eq_add_neg, BitVec.add_assoc]
    rfl

/-- Settles O59: the recurrence subtracts each byte and one more, 25 times. -/
theorem headerChecksum : Obligations.HeaderChecksum := by
  refine fun cfg => ⟨verifyHeaderChecksum_short, fun h => ?_⟩
  rw [verifyHeaderChecksum_ok h, checksumOf_eq_sub_sum, BitVec.zero_add, List.range_eq_range']
  rfl

/-! ## One changed byte -/

theorem checksumOf_append (x : Byte) (bytes more : List Byte) :
    checksumOf x (bytes ++ more) = checksumOf (checksumOf x bytes) more := by
  induction bytes generalizing x with
  | nil => rfl
  | cons v rest ih => exact ih _

theorem checksumOf_injective (bytes : List Byte) : Function.Injective fun x => checksumOf x bytes := by
  induction bytes with
  | nil => exact fun x y h => h
  | cons v rest ih =>
    intro x y h
    have hsub : x - v - 1#8 = y - v - 1#8 := ih h
    exact (BitVec.sub_left_inj v).1 ((BitVec.sub_left_inj 1#8).1 hsub)

/-- Lists of bytes that differ at one place have different checksums. -/
theorem checksumOf_ne_of_byte_ne {v w : Byte} (h : v ≠ w) (x : Byte) (before after : List Byte) :
    checksumOf x (before ++ v :: after) ≠ checksumOf x (before ++ w :: after) := by
  rw [checksumOf_append, checksumOf_append]
  intro heq
  have hsub : checksumOf x before - v - 1#8 = checksumOf x before - w - 1#8 := checksumOf_injective after heq
  exact h ((BitVec.sub_right_inj _).1 ((BitVec.sub_left_inj 1#8).1 hsub))

/-- The bytes of a range in which one byte is written: that byte is replaced, and the others stand as they did. -/
theorem map_read_write_range' {first count i : Nat} (hfirst : first ≤ i) (hlast : i < first + count) (m : Memory)
    (v : Byte) :
    ∃ before after, (List.range' first count).map (Memory.read m) = before ++ Memory.read m i :: after ∧
      (List.range' first count).map (Memory.read (Memory.write m i v)) = before ++ v :: after := by
  obtain ⟨before, after, hsplit⟩ := List.append_of_mem (List.mem_range'_1.2 ⟨hfirst, hlast⟩)
  have hi : i ∉ before ++ after := by
    have hnodup : (List.range' first count).Nodup := List.nodup_range'
    rw [hsplit, List.nodup_middle] at hnodup
    exact (List.nodup_cons.1 hnodup).1
  rw [List.mem_append, not_or] at hi
  have hmap {l : List Nat} (hl : i ∉ l) : l.map (Memory.read (Memory.write m i v)) = l.map (Memory.read m) :=
    List.map_congr_left fun j hj => Memory.read_write_of_ne m v (ne_of_mem_of_not_mem hj hl)
  refine ⟨before.map (Memory.read m), after.map (Memory.read m), by simp [hsplit], ?_⟩
  rw [hsplit, List.map_append, List.map_cons, hmap hi.1, hmap hi.2, Memory.read_write_self]

/-- Settles O60: the checksum changes with the byte, and the byte that it is compared with does not. -/
theorem headerChecksumDetectsOneByte : Obligations.HeaderChecksumDetectsOneByte := by
  intro cfg i v hvalid hfirst hlast hv
  have hlen : 0x14E ≤ cfg.romLen := by
    by_contra hshort
    rw [verifyHeaderChecksum_short (Nat.not_le.1 hshort)] at hvalid
    cases hvalid
  obtain ⟨before, after, hold, hnew⟩ :=
    map_read_write_range' (count := 25) hfirst (Nat.lt_succ_of_le hlast) cfg.rom v
  have hstored : Memory.read (Memory.write cfg.rom i v) 0x14D = Memory.read cfg.rom 0x14D :=
    Memory.read_write_of_ne _ v (by omega)
  rw [verifyHeaderChecksum_ok hlen, hold, Except.ok.injEq, beq_iff_eq] at hvalid
  rw [verifyHeaderChecksum_ok (cfg := { cfg with rom := Memory.write cfg.rom i v }) hlen, hnew, hstored, ← hvalid,
    Except.ok.injEq, beq_eq_false_iff_ne]
  exact checksumOf_ne_of_byte_ne hv 0#8 before after

end Sys2Proof.Machine

/-! The word that `withFetchWord` places (log entries 10 and 12): its three bytes stand at PC, and the fetch reads from
them the instruction that the decoder reads. -/

namespace Sys2Proof.Machine

/-! ## The bytes that an opcode's instruction looks at (R74) -/

/-- Two readings of one opcode with different bytes after it, the first of them `b` and `c`: the instruction has
no operand, or a byte, or a word. -/
inductive ReadAlike (b c : Byte) : Instr → Instr → Prop where
  | op (i : Instr) : ReadAlike b c i i
  | byte (f : Byte → Instr) (h : ∀ n8, (encode (f n8)).length = 2) : ReadAlike b c (f b) (f c)
  | word (f : Word → Instr) (h : ∀ n16, (encode (f n16)).length = 3) (v w : Word) : ReadAlike b c (f v) (f w)

section
variable {b c : Byte} {i j : Instr}

theorem ReadAlike.length_eq (h : ReadAlike b c i j) : (encode i).length = (encode j).length := by
  cases h with
  | op => rfl
  | byte f hf => rw [hf, hf]
  | word f hf v w => rw [hf, hf]

theorem ReadAlike.eq_of_length_one (h : ReadAlike b c i j) (hi : (encode i).length = 1) : i = j := by
  cases h with
  | op => rfl
  | byte f hf => simp [hf] at hi
  | word f hf v w => simp [hf] at hi

theorem ReadAlike.eq_of_length_two (h : ReadAlike b c i j) (hi : (encode i).length = 2) (hb : b = c) : i = j := by
  cases h with
  | op => rfl
  | byte f hf => rw [hb]
  | word f hf v w => simp [hf] at hi

end

theorem decodeX0_readAlike (y z p q : Nat) (b c : Byte) (v w : Word) :
    ReadAlike b c (decodeX0 y z p q b v) (decodeX0 y z p q c w) := by
  unfold decodeX0
  split
  · split
    · exact .op _
    · exact .word _ (fun _ => rfl) v w
    · exact .byte _ fun _ => rfl
    · exact .byte _ fun _ => rfl
    · exact .byte (Instr.jrCond _) fun _ => by cases condOfCode (y - 4) <;> rfl
  · split
    · exact .word (Instr.ldReg16Imm _) (fun _ => by cases reg16OfCode p <;> rfl) v w
    · exact .op _
  · exact .op _
  · exact .op _
  · exact .op _
  · exact .op _
  · cases opnd8OfCode y with
    | reg r => exact .byte (Instr.ldRegImm r) fun _ => by cases r <;> rfl
    | atHL => exact .byte _ fun _ => rfl
  · exact .op _

theorem decodeX3_readAlike (y z p q : Nat) (b c : Byte) (v w : Word) :
    ReadAlike b c (decodeX3 y z p q b v) (decodeX3 y z p q c w) := by
  unfold decodeX3
  split
  · split
    · exact .byte _ fun _ => rfl
    · exact .byte _ fun _ => rfl
    · exact .byte _ fun _ => rfl
    · exact .byte _ fun _ => rfl
    · exact .op _
  · exact .op _
  · split
    · exact .op _
    · exact .word _ (fun _ => rfl) v w
    · exact .op _
    · exact .word _ (fun _ => rfl) v w
    · exact .word (Instr.jpCond _) (fun _ => by cases condOfCode y <;> rfl) v w
  · split
    · exact .word _ (fun _ => rfl) v w
    · exact .op _
    · exact .op _
  · exact .word (Instr.callCond _) (fun _ => by cases condOfCode y <;> rfl) v w
  · split
    · exact .op _
    · exact .word _ (fun _ => rfl) v w
  · exact .byte (Instr.aluImm _) fun _ => by cases aluOfCode y <;> rfl
  · exact .op _

theorem decodeCb_length (o : Byte) : (encode (decodeCb o)).length = 2 :=
  decodeCb_family (P := fun i => (encode i).length = 2) o
    (fun op x => by cases op <;> rcases x with ⟨⟨⟩⟩ | ⟨⟩ <;> rfl)
    (fun b x => by rcases x with ⟨⟨⟩⟩ | ⟨⟩ <;> fin_cases b <;> rfl)
    (fun b x => by rcases x with ⟨⟨⟩⟩ | ⟨⟩ <;> fin_cases b <;> rfl)
    (fun b x => by rcases x with ⟨⟨⟩⟩ | ⟨⟩ <;> fin_cases b <;> rfl)

theorem instrOf_readAlike (cb : Bool) (op b1 b2 c1 c2 : Byte) :
    ReadAlike b1 c1 (instrOf cb op b1 b2) (instrOf cb op c1 c2) := by
  unfold instrOf
  split
  case h_12 =>
    cases cb with
    | false => exact .op _
    | true => exact .byte decodeCb decodeCb_length
  case h_13 =>
    split
    · exact decodeX0_readAlike _ _ _ _ _ _ _ _
    · exact .op _
    · exact .op _
    · exact decodeX3_readAlike _ _ _ _ _ _ _ _
  all_goals exact .op _

theorem encode_instrOf_length (cb : Bool) (op b1 b2 : Byte) :
    (encode (instrOf cb op b1 b2)).length = 1 + operandBytes cb op := by
  have hzero : (encode (instrOf cb op 0#8 0#8)).length = 1 + operandBytes cb op := by
    revert cb op
    decide
  rw [(instrOf_readAlike cb op b1 b2 0#8 0#8).length_eq, hzero]

theorem instrOf_noOperand {cb : Bool} {op : Byte} (h : operandBytes cb op = 0) (b1 b2 c1 c2 : Byte) :
    instrOf cb op b1 b2 = instrOf cb op c1 c2 :=
  (instrOf_readAlike cb op b1 b2 c1 c2).eq_of_length_one (by rw [encode_instrOf_length, h])

theorem instrOf_byteOperand {cb : Bool} {op : Byte} (h : operandBytes cb op = 1) (b1 b2 c2 : Byte) :
    instrOf cb op b1 b2 = instrOf cb op b1 c2 :=
  (instrOf_readAlike cb op b1 b2 b1 c2).eq_of_length_two (by rw [encode_instrOf_length, h]) rfl

/-- Only the 0xCB byte is read by `CB_ENABLED` (R181). -/
theorem instrOf_cb {op : Byte} (h : op ≠ 0xCB#8) (cb cb' : Bool) (b1 b2 : Byte) :
    instrOf cb op b1 b2 = instrOf cb' op b1 b2 := by
  have hop : op.toNat ≠ 0xCB := fun hn => h (BitVec.eq_of_toNat_eq hn)
  unfold instrOf
  split
  case h_12 hcb => exact absurd hcb hop
  all_goals rfl

/-! ## The fetch of three readable bytes -/

theorem operandBytes_le (cb : Bool) (op : Byte) : operandBytes cb op ≤ 2 := by
  unfold operandBytes
  split_ifs <;> decide

/-- Where three bytes can be read at PC, the fetch is their instruction, and PC moves past its encoding (R84, R85). -/
theorem fetchInstr_of_reads {s : State} {op b1 b2 : Byte} (h0 : memRead s s.pc = .ok op)
    (h1 : memRead s (s.pc + 1#16) = .ok b1) (h2 : memRead s (s.pc + 1#16 + 1#16) = .ok b2) {i : Instr}
    (hi : instrOf s.cfg.cbEnabled op b1 b2 = i) :
    fetchInstr s = .ok (i, { s with pc := s.pc + BitVec.ofNat 16 (encode i).length }) := by
  have hpc (p a : Word) : memRead { s with pc := p } a = memRead s a := memRead_congr rfl rfl rfl a
  have e1 := fetchByte_ok (s := { s with pc := s.pc + 1#16 }) ((hpc _ _).trans h1)
  have e2 := fetchByte_ok (s := { s with pc := s.pc + 1#16 + 1#16 }) ((hpc _ _).trans h2)
  have hn := operandBytes_le s.cfg.cbEnabled op
  subst hi
  rw [encode_instrOf_length]
  simp only [fetchInstr, fetchByte_ok h0, bind, Except.bind, pure, Except.pure]
  interval_cases hk : operandBytes s.cfg.cbEnabled op
  · rw [instrOf_noOperand hk b1 b2 0#8 0#8]
    simp only [fetchOperands]
  · rw [instrOf_byteOperand hk b1 b2 0#8]
    simp only [fetchOperands, e1, bind, Except.bind, pure, Except.pure]
    simp only [BitVec.add_assoc]
    rfl
  · simp only [fetchOperands, e1, e2, bind, Except.bind, pure, Except.pure]
    simp only [BitVec.add_assoc]
    rfl

/-! ## Placing bytes -/

theorem plantByte_frame (s : State) (a : Word) (v : Byte) :
    (plantByte s a v).mode = s.mode ∧ (plantByte s a v).pc = s.pc ∧
      (plantByte s a v).cfg.cbEnabled = s.cfg.cbEnabled := by
  cases hr : regionOf a <;> simp [plantByte, hr]

theorem memRead_plantByte_self {a : Word} (h : holdsBytes a = true) (s : State) (v : Byte) :
    memRead (plantByte s a v) a = .ok v := by
  cases hr : regionOf a <;> simp [holdsBytes, hr] at h <;>
    simp [plantByte, memRead, romByte?, hr, Memory.read_write_self]

/-- Outside ROM a byte is placed as a write places it, or nothing is (R37). -/
theorem plantByte_cases (s : State) (a : Word) (v : Byte) :
    regionOf a = .rom ∨ memWrite s a v = .ok (plantByte s a v) ∨ plantByte s a v = s := by
  cases hr : regionOf a <;> simp [plantByte, memWrite, hr]

/-- A byte placed elsewhere leaves what could be read as it was; the ROM image may have grown. -/
theorem memRead_plantByte_of_ne {s : State} {a x : Word} {w : Byte} (hx : x ≠ a) (h : memRead s x = .ok w)
    (v : Byte) : memRead (plantByte s a v) x = .ok w := by
  rcases plantByte_cases s a v with ha | hw | heq
  · cases hr : regionOf x with
    | rom =>
      have hne : x.toNat ≠ a.toNat := fun hn => hx (BitVec.eq_of_toNat_eq hn)
      rw [memRead_rom hr] at h
      split_ifs at h with hlen
      rw [memRead_rom hr]
      simp [plantByte, ha, hlen, Memory.read_write_of_ne _ _ hne, ← h]
    | vram | eram | wram | echo | oam | unusable | io | hram | ie =>
      rw [← h]
      simp [plantByte, ha, memRead, hr]
  · rw [memRead_memWrite hw, if_neg (fun hc => hx hc.1), h]
  · rw [heq, h]

theorem memRead_plantBytes (s : State) {a : Word} (h0 : holdsBytes a = true) (h1 : holdsBytes (a + 1#16) = true)
    (h2 : holdsBytes (a + 1#16 + 1#16) = true) (v0 v1 v2 : Byte) :
    memRead (plantBytes s a [v0, v1, v2]) a = .ok v0 ∧
      memRead (plantBytes s a [v0, v1, v2]) (a + 1#16) = .ok v1 ∧
      memRead (plantBytes s a [v0, v1, v2]) (a + 1#16 + 1#16) = .ok v2 := by
  have h01 : a ≠ a + 1#16 := (add_one_ne a).symm
  have h12 : a + 1#16 ≠ a + 1#16 + 1#16 := (add_one_ne _).symm
  have h02 : a ≠ a + 1#16 + 1#16 := by bv_omega
  simp only [plantBytes]
  exact ⟨memRead_plantByte_of_ne h02 (memRead_plantByte_of_ne h01 (memRead_plantByte_self h0 _ _) _) _,
    memRead_plantByte_of_ne h12 (memRead_plantByte_self h1 _ _) _, memRead_plantByte_self h2 _ _⟩

theorem plantBytes_frame (s : State) (a : Word) (bytes : List Byte) :
    (plantBytes s a bytes).mode = s.mode ∧ (plantBytes s a bytes).pc = s.pc ∧
      (plantBytes s a bytes).cfg.cbEnabled = s.cfg.cbEnabled := by
  induction bytes generalizing s a with
  | nil => exact ⟨rfl, rfl, rfl⟩
  | cons v rest ih =>
    obtain ⟨hmode, hpc, hcb⟩ := plantByte_frame s a v
    simpa only [plantBytes, hmode, hpc, hcb] using ih (plantByte s a v) (a + 1#16)

theorem plantAddress_holdsBytes (pc : Word) :
    holdsBytes (plantAddress pc) = true ∧ holdsBytes (plantAddress pc + 1#16) = true ∧
      holdsBytes (plantAddress pc + 1#16 + 1#16) = true := by
  unfold plantAddress
  split
  next h =>
    simp only [Bool.and_eq_true] at h
    obtain ⟨⟨h0, h1⟩, h2⟩ := h
    exact ⟨h0, h1, by rwa [BitVec.add_assoc]⟩
  next => decide

section
variable (s : State) (cb : Bool)

theorem plantInstr_mode (bytes : List Byte) : (plantInstr s cb bytes).mode = .running :=
  (plantBytes_frame _ _ _).1

theorem plantInstr_pc (bytes : List Byte) : (plantInstr s cb bytes).pc = plantAddress s.pc :=
  (plantBytes_frame _ _ _).2.1

theorem plantInstr_cbEnabled (bytes : List Byte) :
    (plantInstr s cb bytes).cfg.cbEnabled = if bytes.head? = some 0xCB#8 then cb else s.cfg.cbEnabled :=
  (plantBytes_frame _ _ _).2.2

theorem memRead_plantInstr (v0 v1 v2 : Byte) :
    memRead (plantInstr s cb [v0, v1, v2]) (plantInstr s cb [v0, v1, v2]).pc = .ok v0 ∧
      memRead (plantInstr s cb [v0, v1, v2]) ((plantInstr s cb [v0, v1, v2]).pc + 1#16) = .ok v1 ∧
      memRead (plantInstr s cb [v0, v1, v2]) ((plantInstr s cb [v0, v1, v2]).pc + 1#16 + 1#16) = .ok v2 := by
  obtain ⟨h0, h1, h2⟩ := plantAddress_holdsBytes s.pc
  rw [plantInstr_pc]
  exact memRead_plantBytes _ h0 h1 h2 v0 v1 v2

/-- Three bytes that are placed are fetched as the instruction they are under `cb`: for the 0xCB byte `CB_ENABLED` is
set to it, and every other byte is read alike under both settings. -/
theorem fetchInstr_plantInstr (op b1 b2 : Byte) :
    fetchInstr (plantInstr s cb [op, b1, b2]) =
      .ok (instrOf cb op b1 b2,
        { plantInstr s cb [op, b1, b2] with
          pc := (plantInstr s cb [op, b1, b2]).pc +
            BitVec.ofNat 16 (encode (instrOf cb op b1 b2)).length }) := by
  obtain ⟨h0, h1, h2⟩ := memRead_plantInstr s cb op b1 b2
  refine fetchInstr_of_reads h0 h1 h2 ?_
  rw [plantInstr_cbEnabled]
  by_cases hop : op = 0xCB#8
  · simp [hop]
  · exact instrOf_cb hop _ _ b1 b2

end

/-! ## The table words -/

theorem tableBytes_eq (nbits w : Nat) : ∃ op b1 b2, tableBytes nbits w = [op, b1, b2] := by
  simp only [tableBytes]
  split_ifs
  · exact ⟨_, _, _, rfl⟩
  · exact ⟨_, _, _, rfl⟩

theorem decodeTableWord_eq {nbits w : Nat} {i : Instr} (h : decodeTableWord nbits w = some i) :
    ∃ op b1 b2, tableBytes nbits w = [op, b1, b2] ∧ instrOf (tableCb nbits) op b1 b2 = i := by
  obtain ⟨op, b1, b2, hbytes⟩ := tableBytes_eq nbits w
  refine ⟨op, b1, b2, hbytes, ?_⟩
  have hlong : ¬ 2 < operandBytes (tableCb nbits) op := (operandBytes_le _ op).not_gt
  simpa [decodeTableWord, hbytes, decode, hlong] using h

/-- Settles O12: the bytes placed at PC are those that the decoder read, so the fetch gives its instruction. -/
theorem fetchWordIsRun : Obligations.FetchWordIsRun := by
  intro s nbits w i h
  obtain ⟨op, b1, b2, hbytes, rfl⟩ := decodeTableWord_eq h
  rw [State.withFetchWord, hbytes, step_running (plantInstr_mode s _ _), fetchInstr_plantInstr]

end Sys2Proof.Machine

/-! The encoding (R60 to R78): the bytes of each family from its operand codes, the bytes that an instruction is read
from as its encoding, and the reading of an encoding. -/

namespace Sys2Proof.Machine

open Sys2Proof.Spec

/-! ## The code of a field's operand (R63 to R68) -/

/-- The codes of the ALU field (R67). -/
def aluCode (op : AluOp) : Nat :=
  match op with
  | .add => 0
  | .adc => 1
  | .sub => 2
  | .sbc => 3
  | .and => 4
  | .xor => 5
  | .or => 6
  | .cp => 7

section
variable {r : Nat}

theorem opndCode_opnd8OfCode (h : r < 8) : opndCode (opnd8OfCode r) = r := by
  interval_cases r <;> rfl

theorem regCode_of_opnd8OfCode (h : r < 8) {x : Reg8} (hx : opnd8OfCode r = .reg x) : regCode x = r := by
  rw [← opndCode_opnd8OfCode h, hx, opndCode]

theorem eq_six_of_opnd8OfCode (h : r < 8) (hx : opnd8OfCode r = .atHL) : r = 6 := by
  rw [← opndCode_opnd8OfCode h, hx, opndCode]

theorem reg16Code_reg16OfCode (h : r < 4) : reg16Code (reg16OfCode r) = r := by
  interval_cases r <;> rfl

theorem pairCode_pairOfCode (h : r < 4) : pairCode (pairOfCode r) = r := by
  interval_cases r <;> rfl

theorem condCode_condOfCode (h : r < 4) : condCode (condOfCode r) = r := by
  interval_cases r <;> rfl

theorem aluCode_aluOfCode (h : r < 8) : aluCode (aluOfCode r) = r := by
  interval_cases r <;> rfl

theorem rotCode_rotOfCode (h : r < 8) : rotCode (rotOfCode r) = r := by
  interval_cases r <;> rfl

end

/-! ## The bytes of a family (R75, R77) -/

section
variable (dst r : Reg8) (p : Reg16) (q : Pair) (o : Opnd8) (cc : Cond) (b : Fin 8) (n8 : Byte) (n16 : Word)

theorem encode_ldRegReg : encode (Instr.ldRegReg dst r) = encOp (byteOf (0x40 + 8 * regCode dst + regCode r)) := by
  cases dst <;> cases r <;> rfl

theorem encode_ldRegImm : encode (Instr.ldRegImm dst n8) = encByte (byteOf (0x06 + 8 * regCode dst)) n8 := by
  cases dst <;> rfl

theorem encode_ldRegAtHL : encode (Instr.ldRegAtHL dst) = encOp (byteOf (0x46 + 8 * regCode dst)) := by
  cases dst <;> rfl

theorem encode_ldAtHLReg : encode (Instr.ldAtHLReg r) = encOp (byteOf (0x70 + regCode r)) := by
  cases r <;> rfl

theorem encode_ldReg16Imm : encode (Instr.ldReg16Imm p n16) = encWord (byteOf (0x01 + 16 * reg16Code p)) n16 := by
  cases p <;> rfl

theorem encode_incReg16 : encode (Instr.incReg16 p) = encOp (byteOf (0x03 + 16 * reg16Code p)) := by
  cases p <;> rfl

theorem encode_decReg16 : encode (Instr.decReg16 p) = encOp (byteOf (0x0B + 16 * reg16Code p)) := by
  cases p <;> rfl

theorem encode_addHL : encode (Instr.addHL p) = encOp (byteOf (0x09 + 16 * reg16Code p)) := by
  cases p <;> rfl

theorem encode_push : encode (Instr.push q) = encOp (byteOf (0xC5 + 16 * pairCode q)) := by
  cases q <;> rfl

theorem encode_pop : encode (Instr.pop q) = encOp (byteOf (0xC1 + 16 * pairCode q)) := by
  cases q <;> rfl

theorem encode_inc8 : encode (Instr.inc8 o) = encOp (byteOf (0x04 + 8 * opndCode o)) := by
  rcases o with ⟨⟨⟩⟩ | ⟨⟩ <;> rfl

theorem encode_dec8 : encode (Instr.dec8 o) = encOp (byteOf (0x05 + 8 * opndCode o)) := by
  rcases o with ⟨⟨⟩⟩ | ⟨⟩ <;> rfl

theorem encode_alu (op : AluOp) :
    encode (Instr.alu op o) = encOp (byteOf (0x80 + 8 * aluCode op + opndCode o)) := by
  cases op <;> rcases o with ⟨⟨⟩⟩ | ⟨⟩ <;> rfl

theorem encode_aluImm (op : AluOp) : encode (Instr.aluImm op n8) = encByte (byteOf (0xC6 + 8 * aluCode op)) n8 := by
  cases op <;> rfl

theorem encode_jpCond : encode (Instr.jpCond cc n16) = encWord (byteOf (0xC2 + 8 * condCode cc)) n16 := by
  cases cc <;> rfl

theorem encode_jrCond : encode (Instr.jrCond cc n8) = encByte (byteOf (0x20 + 8 * condCode cc)) n8 := by
  cases cc <;> rfl

theorem encode_callCond : encode (Instr.callCond cc n16) = encWord (byteOf (0xC4 + 8 * condCode cc)) n16 := by
  cases cc <;> rfl

theorem encode_retCond : encode (Instr.retCond cc) = encOp (byteOf (0xC0 + 8 * condCode cc)) := by
  cases cc <;> rfl

theorem encode_rst : encode (Instr.rst b) = encOp (byteOf (0xC7 + 8 * b.val)) := by
  fin_cases b <;> rfl

theorem encode_rot (op : RotOp) : encode (Instr.rot op o) = encCb (byteOf (8 * rotCode op + opndCode o)) := by
  cases op <;> rcases o with ⟨⟨⟩⟩ | ⟨⟩ <;> rfl

theorem encode_bit : encode (Instr.bit b o) = encCb (byteOf (0x40 + 8 * b.val + opndCode o)) := by
  rcases o with ⟨⟨⟩⟩ | ⟨⟩ <;> fin_cases b <;> rfl

theorem encode_res : encode (Instr.res b o) = encCb (byteOf (0x80 + 8 * b.val + opndCode o)) := by
  rcases o with ⟨⟨⟩⟩ | ⟨⟩ <;> fin_cases b <;> rfl

theorem encode_set : encode (Instr.set b o) = encCb (byteOf (0xC0 + 8 * b.val + opndCode o)) := by
  rcases o with ⟨⟨⟩⟩ | ⟨⟩ <;> fin_cases b <;> rfl

end

/-! ## The fields of a byte (R62) -/

section
variable (op : Byte)

theorem byteOf_toNat : byteOf op.toNat = op := by
  simp [byteOf]

theorem toNat_eq_fields : op.toNat = 64 * xField op + 8 * yField op + zField op := by
  unfold xField yField zField
  omega

theorem pField_eq : pField op = yField op / 2 := by
  unfold pField yField
  omega

theorem qField_eq : qField op = yField op % 2 := by
  unfold qField yField
  omega

theorem xField_lt : xField op < 4 := by
  unfold xField
  omega

theorem yField_lt : yField op < 8 := Nat.mod_lt _ (by decide)

theorem zField_lt : zField op < 8 := Nat.mod_lt _ (by decide)

end

/-! ## An instruction is read from its own encoding

The proofs follow the cases of the decoder. `grind` stands for `omega` where a case is the last of its match, which
knows its field only by the values that it is not. -/

/-- The encoding of `i` begins the bytes that it was read from: the opcode `n` and the two bytes after it. -/
def ReadsAs (n : Nat) (b1 b2 : Byte) (i : Instr) : Prop := encode i <+: [byteOf n, b1, b2]

section
variable {n m : Nat} {b1 b2 : Byte} {i : Instr}

theorem ReadsAs.op (h : encode i = encOp (byteOf m)) (hm : n = m) : ReadsAs n b1 b2 i :=
  ⟨[b1, b2], by rw [h, hm]; rfl⟩

theorem ReadsAs.byte (h : encode i = encByte (byteOf m) b1) (hm : n = m) : ReadsAs n b1 b2 i :=
  ⟨[b2], by rw [h, hm]; rfl⟩

theorem ReadsAs.word (h : encode i = encWord (byteOf m) (concat b2 b1)) (hm : n = m) : ReadsAs n b1 b2 i :=
  ⟨[], by rw [h, hm, encWord, loByte_concat, hiByte_concat]; rfl⟩

end

section
variable {n y z : Nat} (hy : y < 8) (hz : z < 8) (b1 b2 : Byte)
include hy hz

theorem decodeX0_readsAs (hn : n = 8 * y + z) :
    ReadsAs n b1 b2 (decodeX0 y z (y / 2) (y % 2) b1 (concat b2 b1)) := by
  have hp : reg16Code (reg16OfCode (y / 2)) = y / 2 := reg16Code_reg16OfCode (by omega)
  have ho := opndCode_opnd8OfCode hy
  unfold decodeX0
  split
  · split
    · exact .op rfl hn
    · exact .word rfl hn
    · exact .byte rfl hn
    · exact .byte rfl hn
    · have hc : condCode (condOfCode (y - 4)) = y - 4 := condCode_condOfCode (by omega)
      exact .byte (encode_jrCond _ _) (by grind)
  · split
    · exact .word (encode_ldReg16Imm _ _) (by omega)
    · exact .op (encode_addHL _) (by omega)
  · split
    case h_8 => exact .op (m := 0x3A) rfl (by grind)
    all_goals exact .op rfl hn
  · split
    · exact .op (encode_incReg16 _) (by omega)
    · exact .op (encode_decReg16 _) (by omega)
  · exact .op (encode_inc8 _) (by omega)
  · exact .op (encode_dec8 _) (by omega)
  · split
    next r hr =>
      have hr := regCode_of_opnd8OfCode hy hr
      exact .byte (encode_ldRegImm _ _) (by omega)
    next hr =>
      have hr := eq_six_of_opnd8OfCode hy hr
      exact .byte (m := 0x36) rfl (by omega)
  · split
    case h_8 => exact .op (m := 0x3F) rfl (by grind)
    all_goals exact .op rfl (by grind)

theorem decodeX1_readsAs (hn : n = 0x40 + 8 * y + z) : ReadsAs n b1 b2 (decodeX1 y z) := by
  unfold decodeX1
  split
  next hdst hr =>
    have hdst := eq_six_of_opnd8OfCode hy hdst
    have hr := eq_six_of_opnd8OfCode hz hr
    exact .op (m := 0x76) rfl (by omega)
  next hdst hr =>
    have hdst := regCode_of_opnd8OfCode hy hdst
    have hr := eq_six_of_opnd8OfCode hz hr
    exact .op (encode_ldRegAtHL _) (by omega)
  next hdst hr =>
    have hdst := eq_six_of_opnd8OfCode hy hdst
    have hr := regCode_of_opnd8OfCode hz hr
    exact .op (encode_ldAtHLReg _) (by omega)
  next hdst hr =>
    have hdst := regCode_of_opnd8OfCode hy hdst
    have hr := regCode_of_opnd8OfCode hz hr
    exact .op (encode_ldRegReg _ _) (by omega)

theorem decodeX2_readsAs (hn : n = 0x80 + 8 * y + z) :
    ReadsAs n b1 b2 (Instr.alu (aluOfCode y) (opnd8OfCode z)) :=
  .op (encode_alu _ _) (by rw [aluCode_aluOfCode hy, opndCode_opnd8OfCode hz, hn])

/-- The opcodes of the last quarter that R75 does not read by their fields: 0xCB and the undefined ones (R78). -/
def rowsOfTheirOwn : List Nat := [0xCB, 0xD3, 0xDB, 0xDD, 0xE3, 0xE4, 0xEB, 0xEC, 0xED, 0xF4, 0xFC, 0xFD]

theorem decodeX3_readsAs (hn : n = 0xC0 + 8 * y + z) (hrow : n ∉ rowsOfTheirOwn) :
    ReadsAs n b1 b2 (decodeX3 y z (y / 2) (y % 2) b1 (concat b2 b1)) := by
  simp only [rowsOfTheirOwn, List.mem_cons, List.not_mem_nil, or_false, not_or] at hrow
  have hp : pairCode (pairOfCode (y / 2)) = y / 2 := pairCode_pairOfCode (by omega)
  have hc : y < 4 → condCode (condOfCode y) = y := condCode_condOfCode
  have ha := aluCode_aluOfCode hy
  unfold decodeX3
  split
  · split
    case h_5 => exact .op (encode_retCond _) (by grind)
    all_goals exact .byte rfl hn
  · split
    · exact .op (encode_pop _) (by omega)
    · split
      · exact .op (m := 0xC9) rfl (by omega)
      · exact .op (m := 0xD9) rfl (by omega)
      · exact .op (m := 0xE9) rfl (by omega)
      · exact .op (m := 0xF9) rfl (by grind)
  · split
    · exact .op rfl hn
    · exact .word rfl hn
    · exact .op rfl hn
    · exact .word rfl hn
    · exact .word (encode_jpCond _ _) (by grind)
  · split
    · exact .word rfl hn
    · exact .op rfl hn
    · exact .op (m := 0xFB) rfl (by grind)
  · exact .word (encode_callCond _ _) (by omega)
  · split
    · exact .op (encode_push _) (by omega)
    · exact .word (m := 0xCD) rfl (by omega)
  · exact .byte (encode_aluImm _ _) (by omega)
  · exact .op (encode_rst _) (by grind [Fin.val_ofNat])

end

theorem encode_decodeCb (o : Byte) : encode (decodeCb o) = encCb o := by
  have hop := rotCode_rotOfCode (yField_lt o)
  have hz := opndCode_opnd8OfCode (zField_lt o)
  have hy : (Fin.ofNat 8 (yField o)).val = yField o := Nat.mod_eq_of_lt (yField_lt o)
  have ho := toNat_eq_fields o
  have hx := xField_lt o
  have hbyte : ∀ {n}, o.toNat = n → encCb (byteOf n) = encCb o := by
    rintro _ rfl
    rw [byteOf_toNat]
  unfold decodeCb
  split
  · rw [encode_rot, hbyte (by omega)]
  · rw [encode_bit, hbyte (by omega)]
  · rw [encode_res, hbyte (by omega)]
  · rw [encode_set, hbyte (by grind)]

theorem instrOf_readsAs (cb : Bool) (op b1 b2 : Byte) : ReadsAs op.toNat b1 b2 (instrOf cb op b1 b2) := by
  have hx := xField_lt op
  have hy := yField_lt op
  have hz := zField_lt op
  have hn := toNat_eq_fields op
  unfold instrOf
  split
  case h_12 h =>
    rw [h]
    cases cb with
    | false => exact .op rfl rfl
    | true => exact ⟨[b2], congrArg (· ++ [b2]) (encode_decodeCb b1)⟩
  case h_13 =>
    rw [pField_eq, qField_eq]
    split
    · exact decodeX0_readsAs hy hz b1 b2 (by omega)
    · exact decodeX1_readsAs hy hz b1 b2 (by omega)
    · exact decodeX2_readsAs hy hz b1 b2 (by omega)
    · exact decodeX3_readsAs hy hz b1 b2 (by grind) (by simp only [rowsOfTheirOwn, List.mem_cons]; grind)
  all_goals
    next h => exact .op rfl h

theorem encode_instrOf (cb : Bool) (op b1 b2 : Byte) :
    encode (instrOf cb op b1 b2) = op :: [b1, b2].take (operandBytes cb op) := by
  rw [List.prefix_iff_eq_take.1 (instrOf_readsAs cb op b1 b2), encode_instrOf_length, byteOf_toNat, Nat.add_comm,
    List.take_succ_cons]

theorem instrOf_wf (cb : Bool) (op b1 b2 : Byte) : (instrOf cb op b1 b2).wf cb = true := by
  by_cases hu : op ∈ undefinedOpcodes
  · obtain ⟨hn, hk, -⟩ := instrOf_undefined hu cb
    rw [instrOf_noOperand hn b1 b2 0#8 0#8, Instr.wf, hk]
  by_cases hcb : op = 0xCB#8 ∧ cb = false
  · obtain ⟨rfl, rfl⟩ := hcb
    rfl
  · rcases instrOf_hasEffect hu hcb b1 b2 with hk | ⟨hk, htrue⟩
    · rw [Instr.wf, hk]
    · rw [Instr.wf, hk, htrue]

/-! ## Every instruction of a setting is read -/

theorem eq_concat (v : Word) : ∃ hi lo, v = concat hi lo :=
  ⟨hiByte v, loByte v, (concat_hiByte_loByte v).symm⟩

theorem cb_of_cbTable {cb : Bool} {i : Instr} (h : i.wf cb = true) (hk : i.kind = .cbTable) : cb = true := by
  rwa [Instr.wf, hk] at h

/-- Each instruction with an opcode, and the bytes after it, that it is read from (R75, R77, R78). -/
theorem exists_instrOf {cb : Bool} {i : Instr} (h : i.wf cb = true) : ∃ op b1 b2, instrOf cb op b1 b2 = i := by
  cases inFamily i with
  | ldRegReg dst r => exact ⟨byteOf (0x40 + 8 * regCode dst + regCode r), 0#8, 0#8, by cases dst <;> cases r <;> rfl⟩
  | ldRegImm dst n8 => exact ⟨byteOf (0x06 + 8 * regCode dst), n8, 0#8, by cases dst <;> rfl⟩
  | ldRegAtHL dst => exact ⟨byteOf (0x46 + 8 * regCode dst), 0#8, 0#8, by cases dst <;> rfl⟩
  | ldAtHLReg r => exact ⟨byteOf (0x70 + regCode r), 0#8, 0#8, by cases r <;> rfl⟩
  | ldReg16Imm p n16 =>
    obtain ⟨hi, lo, rfl⟩ := eq_concat n16
    exact ⟨byteOf (0x01 + 16 * reg16Code p), lo, hi, by cases p <;> rfl⟩
  | incReg16 p => exact ⟨byteOf (0x03 + 16 * reg16Code p), 0#8, 0#8, by cases p <;> rfl⟩
  | decReg16 p => exact ⟨byteOf (0x0B + 16 * reg16Code p), 0#8, 0#8, by cases p <;> rfl⟩
  | addHL p => exact ⟨byteOf (0x09 + 16 * reg16Code p), 0#8, 0#8, by cases p <;> rfl⟩
  | push q => exact ⟨byteOf (0xC5 + 16 * pairCode q), 0#8, 0#8, by cases q <;> rfl⟩
  | pop q => exact ⟨byteOf (0xC1 + 16 * pairCode q), 0#8, 0#8, by cases q <;> rfl⟩
  | inc8 o => exact ⟨byteOf (0x04 + 8 * opndCode o), 0#8, 0#8, by rcases o with ⟨⟨⟩⟩ | ⟨⟩ <;> rfl⟩
  | dec8 o => exact ⟨byteOf (0x05 + 8 * opndCode o), 0#8, 0#8, by rcases o with ⟨⟨⟩⟩ | ⟨⟩ <;> rfl⟩
  | alu op o =>
    refine ⟨byteOf (0x80 + 8 * aluCode op + opndCode o), 0#8, 0#8, ?_⟩
    cases op <;> rcases o with ⟨⟨⟩⟩ | ⟨⟩ <;> rfl
  | aluImm op n8 => exact ⟨byteOf (0xC6 + 8 * aluCode op), n8, 0#8, by cases op <;> rfl⟩
  | jpCond cc n16 =>
    obtain ⟨hi, lo, rfl⟩ := eq_concat n16
    exact ⟨byteOf (0xC2 + 8 * condCode cc), lo, hi, by cases cc <;> rfl⟩
  | jrCond cc n8 => exact ⟨byteOf (0x20 + 8 * condCode cc), n8, 0#8, by cases cc <;> rfl⟩
  | callCond cc n16 =>
    obtain ⟨hi, lo, rfl⟩ := eq_concat n16
    exact ⟨byteOf (0xC4 + 8 * condCode cc), lo, hi, by cases cc <;> rfl⟩
  | retCond cc => exact ⟨byteOf (0xC0 + 8 * condCode cc), 0#8, 0#8, by cases cc <;> rfl⟩
  | rst y => exact ⟨byteOf (0xC7 + 8 * y.val), 0#8, 0#8, by fin_cases y <;> rfl⟩
  | rot op o =>
    obtain rfl := cb_of_cbTable h (rot_kind _ _)
    exact ⟨0xCB#8, byteOf (8 * rotCode op + opndCode o), 0#8, by cases op <;> rcases o with ⟨⟨⟩⟩ | ⟨⟩ <;> rfl⟩
  | bit b o =>
    obtain rfl := cb_of_cbTable h (bit_kind _ _)
    exact ⟨0xCB#8, byteOf (0x40 + 8 * b.val + opndCode o), 0#8, by rcases o with ⟨⟨⟩⟩ | ⟨⟩ <;> fin_cases b <;> rfl⟩
  | res b o =>
    obtain rfl := cb_of_cbTable h (res_kind _ _)
    exact ⟨0xCB#8, byteOf (0x80 + 8 * b.val + opndCode o), 0#8, by rcases o with ⟨⟨⟩⟩ | ⟨⟩ <;> fin_cases b <;> rfl⟩
  | set b o =>
    obtain rfl := cb_of_cbTable h (set_kind _ _)
    exact ⟨0xCB#8, byteOf (0xC0 + 8 * b.val + opndCode o), 0#8, by rcases o with ⟨⟨⟩⟩ | ⟨⟩ <;> fin_cases b <;> rfl⟩
  | undefinedOpcode i hk => exact ⟨(encode i).headD 0#8, 0#8, 0#8, by cases i <;> cases hk <;> rfl⟩
  | prefix_cb =>
    obtain rfl : cb = false := by simpa [Instr.wf, Instr.kind] using h
    exact ⟨0xCB#8, 0#8, 0#8, rfl⟩
  | ld_atA16_sp n16 =>
    obtain ⟨hi, lo, rfl⟩ := eq_concat n16
    exact ⟨0x08#8, lo, hi, rfl⟩
  | jp_a16 n16 =>
    obtain ⟨hi, lo, rfl⟩ := eq_concat n16
    exact ⟨0xC3#8, lo, hi, rfl⟩
  | call_a16 n16 =>
    obtain ⟨hi, lo, rfl⟩ := eq_concat n16
    exact ⟨0xCD#8, lo, hi, rfl⟩
  | ld_atA16_a n16 =>
    obtain ⟨hi, lo, rfl⟩ := eq_concat n16
    exact ⟨0xEA#8, lo, hi, rfl⟩
  | ld_a_atA16 n16 =>
    obtain ⟨hi, lo, rfl⟩ := eq_concat n16
    exact ⟨0xFA#8, lo, hi, rfl⟩
  | stop n8 => exact ⟨0x10#8, n8, 0#8, rfl⟩
  | jr_e8 n8 => exact ⟨0x18#8, n8, 0#8, rfl⟩
  | ld_atHL_n8 n8 => exact ⟨0x36#8, n8, 0#8, rfl⟩
  | ldh_atA8_a n8 => exact ⟨0xE0#8, n8, 0#8, rfl⟩
  | ldh_a_atA8 n8 => exact ⟨0xF0#8, n8, 0#8, rfl⟩
  | add_sp_e8 n8 => exact ⟨0xE8#8, n8, 0#8, rfl⟩
  | ld_hl_spE8 n8 => exact ⟨0xF8#8, n8, 0#8, rfl⟩
  | nop => exact ⟨0x00#8, 0#8, 0#8, rfl⟩
  | rlca => exact ⟨0x07#8, 0#8, 0#8, rfl⟩
  | rrca => exact ⟨0x0F#8, 0#8, 0#8, rfl⟩
  | rla => exact ⟨0x17#8, 0#8, 0#8, rfl⟩
  | rra => exact ⟨0x1F#8, 0#8, 0#8, rfl⟩
  | daa => exact ⟨0x27#8, 0#8, 0#8, rfl⟩
  | cpl => exact ⟨0x2F#8, 0#8, 0#8, rfl⟩
  | scf => exact ⟨0x37#8, 0#8, 0#8, rfl⟩
  | ccf => exact ⟨0x3F#8, 0#8, 0#8, rfl⟩
  | halt => exact ⟨0x76#8, 0#8, 0#8, rfl⟩
  | ld_atBC_a => exact ⟨0x02#8, 0#8, 0#8, rfl⟩
  | ld_a_atBC => exact ⟨0x0A#8, 0#8, 0#8, rfl⟩
  | ld_atDE_a => exact ⟨0x12#8, 0#8, 0#8, rfl⟩
  | ld_a_atDE => exact ⟨0x1A#8, 0#8, 0#8, rfl⟩
  | ld_atHLInc_a => exact ⟨0x22#8, 0#8, 0#8, rfl⟩
  | ld_a_atHLInc => exact ⟨0x2A#8, 0#8, 0#8, rfl⟩
  | ld_atHLDec_a => exact ⟨0x32#8, 0#8, 0#8, rfl⟩
  | ld_a_atHLDec => exact ⟨0x3A#8, 0#8, 0#8, rfl⟩
  | ret => exact ⟨0xC9#8, 0#8, 0#8, rfl⟩
  | reti => exact ⟨0xD9#8, 0#8, 0#8, rfl⟩
  | jp_atHL => exact ⟨0xE9#8, 0#8, 0#8, rfl⟩
  | ld_sp_hl => exact ⟨0xF9#8, 0#8, 0#8, rfl⟩
  | ld_atC_a => exact ⟨0xE2#8, 0#8, 0#8, rfl⟩
  | ld_a_atC => exact ⟨0xF2#8, 0#8, 0#8, rfl⟩
  | di => exact ⟨0xF3#8, 0#8, 0#8, rfl⟩
  | ei => exact ⟨0xFB#8, 0#8, 0#8, rfl⟩

/-! ## The bytes that `decode` reads -/

theorem instrOf_operands {cb : Bool} {op : Byte} {operands : List Byte}
    (h : operands.length = operandBytes cb op) (rest : List Byte) :
    instrOf cb op ((operands ++ rest).getD 0 0#8) ((operands ++ rest).getD 1 0#8) =
      instrOf cb op (operands.getD 0 0#8) (operands.getD 1 0#8) := by
  match operands, h with
  | [], h => exact instrOf_noOperand h.symm _ _ _ _
  | [_], h => exact instrOf_byteOperand h.symm _ _ _
  | _ :: _ :: _, _ => rfl

theorem decode_cons {cb : Bool} {op : Byte} {operands : List Byte} (h : operands.length = operandBytes cb op)
    (rest : List Byte) :
    decode cb (op :: (operands ++ rest)) =
      .ok (instrOf cb op (operands.getD 0 0#8) (operands.getD 1 0#8), rest) := by
  have hlen : ¬ (operands ++ rest).length < operandBytes cb op := by simp [← h]
  rw [decode, if_neg hlen, instrOf_operands h, ← h, List.drop_left]

theorem decode_ok {cb : Bool} {bytes rest : List Byte} {i : Instr} (h : decode cb bytes = .ok (i, rest)) :
    ∃ op operands, operands.length = operandBytes cb op ∧ bytes = op :: (operands ++ rest) ∧
      i = instrOf cb op (operands.getD 0 0#8) (operands.getD 1 0#8) := by
  match bytes with
  | [] => simp [decode] at h
  | op :: tail =>
    have hlen : operandBytes cb op ≤ tail.length := by
      by_contra hlt
      simp [decode, Nat.lt_of_not_ge hlt] at h
    have hcut := tail.take_append_drop (operandBytes cb op)
    have htake : (tail.take (operandBytes cb op)).length = operandBytes cb op := List.length_take_of_le hlen
    rw [← hcut, decode_cons htake] at h
    simp only [Except.ok.injEq, Prod.mk.injEq] at h
    obtain ⟨hi, hrest⟩ := h
    exact ⟨op, _, htake, by rw [← hrest, hcut], hi.symm⟩

/-! ## The statements -/

/-- Settles O2: an instruction is read from its encoding, and the bytes that follow are not looked at. -/
theorem decodeOfEncode : Obligations.DecodeOfEncode := by
  intro cb i rest hwf
  obtain ⟨op, b1, b2, rfl⟩ := exists_instrOf hwf
  have hlen : ([b1, b2].take (operandBytes cb op)).length = operandBytes cb op :=
    List.length_take_of_le (operandBytes_le cb op)
  rw [encode_instrOf, List.cons_append, decode_cons hlen,
    ← instrOf_operands hlen ([b1, b2].drop (operandBytes cb op)), List.take_append_drop]
  rfl

/-- Settles O3: the bytes that were read are the opcode and its operands, and so is the encoding. -/
theorem encodeOfDecode : Obligations.EncodeOfDecode := by
  intro cb bytes rest i h
  obtain ⟨op, operands, hn, rfl, rfl⟩ := decode_ok h
  refine ⟨instrOf_wf _ _ _ _, ?_⟩
  have htake : [operands.getD 0 0#8, operands.getD 1 0#8].take operands.length = operands := by
    have := hn ▸ operandBytes_le cb op
    match operands, this with
    | [], _ | [_], _ | [_, _], _ => rfl
  rw [encode_instrOf, ← hn, htake, List.cons_append]

theorem one_add_operandBytes (cb : Bool) (op : Byte) :
    1 + operandBytes cb op = if op = 0xCB#8 ∧ cb = false then 1 else lengthOf op := by
  revert cb op
  decide

/-- Settles O4: the length is one more than the operand bytes that the decoder asks for. -/
theorem lengthFromFirstByte : Obligations.LengthFromFirstByte := by
  rintro cb op rest n hn
  obtain rfl : n = 1 + operandBytes cb op := hn.trans (one_add_operandBytes cb op).symm
  refine ⟨fun h => ?_, fun h => ?_⟩
  · have hlen : ¬ rest.length < operandBytes cb op := by omega
    exact ⟨_, by rw [decode, if_neg hlen, Nat.add_sub_cancel_left]⟩
  · rw [decode, if_pos (by omega)]

/-- Settles O1: each word is read by its fields. -/
theorem writtenOutWordsDecode : Obligations.WrittenOutWordsDecode :=
  ⟨rfl, rfl, rfl, rfl, rfl, rfl, rfl, rfl, rfl, rfl, rfl, rfl, rfl⟩

end Sys2Proof.Machine

/-! The step (R83 to R92): the bytes that stand at PC are fetched one after another, so they are the instruction that
the decoder reads from them; a byte that is missing and cannot be read is the fault; and a step without a next state
changes nothing. -/

namespace Sys2Proof.Machine

open Sys2Proof.Spec

/-! ## Bytes in memory -/

section
variable {s : State} {addr : Word} {v : Byte} {rest : List Byte}

theorem add_ofNat_succ (addr : Word) (k : Nat) :
    addr + BitVec.ofNat 16 (k + 1) = addr + 1#16 + BitVec.ofNat 16 k := by
  rw [BitVec.add_assoc, Nat.add_comm, BitVec.ofNat_add]

theorem memRead_withPc (s : State) (p a : Word) : memRead { s with pc := p } a = memRead s a :=
  memRead_congr rfl rfl rfl a

theorem memRead_of_bytesAt (h : BytesAt s addr (v :: rest)) : memRead s addr = .ok v := by
  simpa using h 0 v rfl

/-- The bytes after the first stand from the next address on, and the fetch of the first moves PC there. -/
theorem bytesAt_withPc_succ (h : BytesAt s addr (v :: rest)) :
    BytesAt { s with pc := addr + 1#16 } (addr + 1#16) rest := by
  intro k w hk
  rw [memRead_withPc, ← add_ofNat_succ]
  exact h (k + 1) w hk

end

/-! ## The fetch of the operands (R85) -/

section
variable {s : State} {operands : List Byte}

theorem fetchOperands_of_bytesAt (hle : operands.length ≤ 2) (h : BytesAt s s.pc operands) :
    fetchOperands operands.length s =
      .ok (operands.getD 0 0#8, operands.getD 1 0#8,
        { s with pc := s.pc + BitVec.ofNat 16 operands.length }) := by
  match operands, hle with
  | [], _ => simp [fetchOperands]
  | [b1], _ =>
    have e1 := fetchByte_ok (memRead_of_bytesAt h)
    simp [fetchOperands, e1, bind, Except.bind, pure, Except.pure]
  | [b1, b2], _ =>
    have e1 := fetchByte_ok (memRead_of_bytesAt h)
    have e2 := fetchByte_ok (memRead_of_bytesAt (bytesAt_withPc_succ h))
    simp [fetchOperands, e1, e2, bind, Except.bind, pure, Except.pure, BitVec.add_assoc]

/-- The first operand byte that cannot be read is the fault of the fetch. -/
theorem fetchOperands_error {n : Nat} {e : Fault} (hn : n ≤ 2) (hlt : operands.length < n)
    (h : BytesAt s s.pc operands) (he : memRead s (s.pc + BitVec.ofNat 16 operands.length) = .error e) :
    fetchOperands n s = .error e := by
  match operands with
  | [] =>
    have e1 := fetchByte_error (by simpa using he)
    obtain rfl | rfl : n = 1 ∨ n = 2 := by
      simp only [List.length_nil] at hlt
      omega
    · simp [fetchOperands, e1, bind, Except.bind]
    · simp [fetchOperands, e1, bind, Except.bind]
  | b1 :: rest =>
    obtain ⟨rfl, rfl⟩ : n = 2 ∧ rest = [] := by
      simp only [List.length_cons] at hlt
      exact ⟨by omega, List.length_eq_zero_iff.1 (by omega)⟩
    have e1 := fetchByte_ok (memRead_of_bytesAt h)
    have e2 := fetchByte_error (s := { s with pc := s.pc + 1#16 }) ((memRead_withPc _ _ _).trans he)
    simp [fetchOperands, e1, e2, bind, Except.bind]

end

/-! ## The fetch of an instruction (R83, R84) -/

section
variable {s : State} {op : Byte} {operands : List Byte}

theorem fetchInstr_of_bytesAt (hn : operands.length = operandBytes s.cfg.cbEnabled op)
    (h : BytesAt s s.pc (op :: operands)) :
    fetchInstr s =
      .ok (instrOf s.cfg.cbEnabled op (operands.getD 0 0#8) (operands.getD 1 0#8),
        { s with pc := s.pc + BitVec.ofNat 16 (op :: operands).length }) := by
  have hops := fetchOperands_of_bytesAt (hn ▸ operandBytes_le _ _) (bytesAt_withPc_succ h)
  rw [fetchInstr, fetchByte_ok (memRead_of_bytesAt h), List.length_cons,
    add_ofNat_succ s.pc operands.length]
  simp only [bind, Except.bind, pure, Except.pure, ← hn, hops]

theorem fetchInstr_opcode_error {e : Fault} (he : memRead s s.pc = .error e) : fetchInstr s = .error e := by
  rw [fetchInstr, fetchByte_error he]
  rfl

theorem fetchInstr_operand_error {e : Fault} (hlt : operands.length < operandBytes s.cfg.cbEnabled op)
    (h : BytesAt s s.pc (op :: operands))
    (he : memRead s (s.pc + BitVec.ofNat 16 (op :: operands).length) = .error e) :
    fetchInstr s = .error e := by
  rw [List.length_cons, add_ofNat_succ s.pc operands.length] at he
  have hops := fetchOperands_error (operandBytes_le _ _) hlt (bytesAt_withPc_succ h)
    ((memRead_withPc _ _ _).trans he)
  rw [fetchInstr, fetchByte_ok (memRead_of_bytesAt h)]
  simp only [bind, Except.bind, hops]

end

theorem decode_error {cb : Bool} {bytes : List Byte} {d : DecodeError} (h : decode cb bytes = .error d) :
    bytes = [] ∨ ∃ op operands, bytes = op :: operands ∧ operands.length < operandBytes cb op := by
  match bytes with
  | [] => exact .inl rfl
  | op :: operands =>
    refine .inr ⟨op, operands, rfl, ?_⟩
    by_contra hlen
    simp [decode, hlen] at h

/-- Settles O6: the missing byte is the opcode or an operand byte, and its fetch is the first that fails. -/
theorem fetchFaultEndsStep : Obligations.FetchFaultEndsStep := by
  intro s bytes d e hm h hd he
  suffices hf : fetchInstr s = .error e by
    rw [step_running hm, hf]
    rfl
  rcases decode_error hd with rfl | ⟨op, operands, rfl, hlt⟩
  · exact fetchInstr_opcode_error (by simpa using he)
  · exact fetchInstr_operand_error hlt h he

/-- Settles O5: the bytes that the decoder reads are the opcode and its operands, which the fetch reads at PC. -/
theorem stepRunsDecodedInstruction : Obligations.StepRunsDecodedInstruction := by
  intro s bytes i hm h hd
  obtain ⟨op, operands, hn, rfl, rfl⟩ := decode_ok hd
  rw [List.append_nil] at h ⊢
  rw [step_running hm, fetchInstr_of_bytesAt hn h]

/-! ## Steps without a next state of their own -/

/-- Settles O7: neither mode is Running. -/
theorem haltedAndStoppedStepsAreNoOps : Obligations.HaltedAndStoppedStepsAreNoOps := by
  rintro s (hm | hm)
  · exact step_of_not_running (by simp [hm])
  · exact step_of_not_running (by simp [hm])

section
variable {s : State}

theorem terminal_iff_not_running : s.terminal = true ↔ s.mode ≠ .running := by
  cases hm : s.mode <;> simp [State.terminal, hm]

theorem running_of_step_fault {e : Fault} (h : step s = .fault e) : s.mode = .running := by
  by_contra hm
  simp [step_of_not_running hm] at h

theorem stateAfter_of_fault {e : Fault} (h : step s = .fault e) : stateAfter s = s := by
  rw [stateAfter, h]

theorem runFor_of_fault {e : Fault} (h : step s = .fault e) (k : Nat) :
    runFor (k + 1) s = (s, .faulted e) := by
  have hterm : ¬ s.terminal = true := by simp [terminal_iff_not_running, running_of_step_fault h]
  rw [runFor, if_neg hterm, h]

theorem runFor_of_not_running (hm : s.mode ≠ .running) (k : Nat) : runFor k s = (s, .terminal) := by
  have hterm := terminal_iff_not_running.2 hm
  cases k with
  | zero => rw [runFor, if_pos hterm]
  | succ k => rw [runFor, if_pos hterm]

end

/-- Settles O58: a fault carries no state, and a run looks at the mode before each step. -/
theorem faultsLeaveTheStateOfBefore : Obligations.FaultsLeaveTheStateOfBefore :=
  ⟨fun _ _ h => stateAfter_of_fault h, fun _ _ k h => runFor_of_fault h k,
    fun _ k hm => runFor_of_not_running hm k⟩

end Sys2Proof.Machine

/-! The 8-bit loads and stores (R95 to R113): the addresses they use, the one access each of them makes, and what that
access gives. -/

namespace Sys2Proof.Machine

open Sys2Proof.Spec

/-! ## Addresses -/

theorem hl_eq_pair (s : State) : hl s = s.pair .hl :=
  BitVec.eq_of_toNat_eq (by rw [hl, ← toNat_concat, BitVec.ofNat_toNat, BitVec.setWidth_eq]; rfl)

/-- The high page at an offset as the number of R71. -/
theorem highPage_eq_ofNat (offset : Byte) : highPage offset = BitVec.ofNat 16 (0xFF00 + offset.toNat) := by
  rw [BitVec.ofNat_add, BitVec.ofNat_toNat]
  rfl

theorem encWord_append (op lo hi : Byte) : encWord op (hi ++ lo) = [op, lo, hi] :=
  congrArg₂ (fun v w => [op, v, w]) (loByte_concat hi lo) (hiByte_concat hi lo)

/-! ## A write and the registers -/

/-- A write to memory reads no pair and keeps every pair, so it goes past the write of a pair. -/
theorem memWrite_setPair (s : State) (p : Pair) (w a : Word) (v : Byte) :
    memWrite (s.setPair p w) a v = (memWrite s a v).map (·.setPair p w) := by
  unfold memWrite
  cases regionOf a <;> cases p <;> rfl

/-- A store that steps HL is a store from the state whose HL is stepped, at the old HL (R100, R102). -/
theorem storeAStep_eq_storeByte (newHL : Word) (s : State) :
    storeAStep newHL s = storeByte (s.pair .hl) s.a (s.setPair .hl newHL) := by
  rw [storeAStep, storeByte, memWrite_setPair]
  rfl

/-! ## One access -/

section
variable {i : Instr} {s s' : State} {addr : Word}

/-- An instruction that reads one byte and goes on to `f` of it. -/
theorem loadsFrom_of_exec {f : Byte → State} (h : exec i s = finish (memRead s addr >>= fun v => pure (f v))) :
    LoadsFrom i s addr f :=
  ⟨fun v hv => by rw [h, hv]; rfl, fun e he => by rw [h, he]; rfl⟩

theorem loadsFrom_of_loadReg {dst : Reg8} (h : exec i s = loadReg dst addr s) : LoadsFrom i s addr (s.setReg dst) :=
  loadsFrom_of_exec h

theorem loadsFrom_of_loadAStep {newHL : Word} (h : exec i s = loadAStep newHL s) :
    LoadsFrom i s (s.pair .hl) fun v => (s.setReg .a v).setPair .hl newHL :=
  loadsFrom_of_exec h

/-- An instruction that makes one store, with the registers of `s'` when it ends. -/
theorem storesTo_of_storeByte {v : Byte} (h : exec i s = storeByte addr v s') : StoresTo i s s' addr v := by
  constructor
  · intro ha
    obtain ⟨t, ht⟩ := memWrite_of_supported ha s' v
    exact ⟨t, h.trans (storeByte_next.2 ht), memWrite_byteStored ht⟩
  · intro ha
    rw [h, storeByte, memWrite_of_unsupported ha, finish_error]

theorem storesTo_of_storeAStep {newHL : Word} (h : exec i s = storeAStep newHL s) :
    StoresTo i s (s.setPair .hl newHL) (s.pair .hl) s.a :=
  storesTo_of_storeByte (h.trans (storeAStep_eq_storeByte newHL s))

end

/-! ## The instructions -/

/-- Settles O23: each of the seven is one store, at its own address. -/
theorem storeByteToMemory : Obligations.StoreByteToMemory := by
  intro s
  simp only [hl_eq_pair, ← highPage_eq_ofNat]
  exact ⟨fun r => ⟨encode_ldAtHLReg r, storesTo_of_storeByte (exec_ldAtHLReg r s)⟩,
    fun _ => ⟨rfl, storesTo_of_storeByte rfl⟩,
    ⟨rfl, storesTo_of_storeByte rfl⟩,
    ⟨rfl, storesTo_of_storeByte rfl⟩,
    fun lo hi => ⟨encWord_append _ lo hi, storesTo_of_storeByte rfl⟩,
    fun _ => ⟨rfl, storesTo_of_storeByte rfl⟩,
    ⟨rfl, storesTo_of_storeByte rfl⟩⟩

/-- Settles O25: a store at the old HL from the state with HL stepped. -/
theorem storeAndStepHL : Obligations.StoreAndStepHL := by
  intro s
  rw [hl_eq_pair]
  exact ⟨⟨rfl, storesTo_of_storeAStep rfl⟩, ⟨rfl, storesTo_of_storeAStep rfl⟩⟩

/-- Settles O21, by the meanings of the two families. -/
theorem loadRegisterFromRegisterOrImmediate : Obligations.LoadRegisterFromRegisterOrImmediate :=
  fun s => ⟨fun dst r => ⟨encode_ldRegReg dst r, exec_ldRegReg dst r s⟩,
    fun dst n8 => ⟨encode_ldRegImm dst n8, exec_ldRegImm dst n8 s⟩⟩

/-- Settles O22: each of the six is one load, from its own address. -/
theorem loadRegisterFromMemory : Obligations.LoadRegisterFromMemory := by
  intro s
  simp only [hl_eq_pair, ← highPage_eq_ofNat]
  exact ⟨fun dst => ⟨encode_ldRegAtHL dst, loadsFrom_of_loadReg (exec_ldRegAtHL dst s)⟩,
    ⟨rfl, loadsFrom_of_loadReg (dst := .a) rfl⟩,
    ⟨rfl, loadsFrom_of_loadReg (dst := .a) rfl⟩,
    fun lo hi => ⟨encWord_append _ lo hi, loadsFrom_of_loadReg (dst := .a) rfl⟩,
    fun _ => ⟨rfl, loadsFrom_of_loadReg (dst := .a) rfl⟩,
    ⟨rfl, loadsFrom_of_loadReg (dst := .a) rfl⟩⟩

/-- Settles O24: A loaded from the old HL, and HL stepped after it. -/
theorem loadAndStepHL : Obligations.LoadAndStepHL := by
  intro s
  rw [hl_eq_pair]
  exact ⟨⟨rfl, loadsFrom_of_loadAStep rfl⟩, ⟨rfl, loadsFrom_of_loadAStep rfl⟩⟩

end Sys2Proof.Machine

/-! The 16-bit loads and the stack (R114 to R120, R143, R144): how a push or a pop faults, the pop as an instruction
makes it, and the two sums of SP and a signed offset. -/

namespace Sys2Proof.Machine

open Sys2Proof.Spec

/-! ## Pushing and popping -/

/-- A push reports the fault of its first byte access, which is that of the high byte (R48, R91). -/
theorem push16_error {s : State} {e : Fault} (h : firstWriteFault (s.sp - 1#16) (s.sp - 2#16) e) (v : Word) :
    push16 s v = .error e := by
  rw [push16_eq]
  rcases h with ⟨hhi, rfl⟩ | ⟨hhi, hlo, rfl⟩
  · rw [memWrite_of_unsupported hhi]
    rfl
  · obtain ⟨u, hu⟩ := memWrite_of_supported hhi s (hiByte v)
    rw [hu, Except.bind, memWrite_of_unsupported hlo]
    rfl

theorem pop16_error_low {s : State} {e : Fault} (h : memRead s s.sp = .error e) : pop16 s = .error e := by
  simp only [pop16, pop8, h, bind, Except.bind]

theorem pop16_error_high {s : State} {lo : Byte} {e : Fault} (hlo : memRead s s.sp = .ok lo)
    (hhi : memRead s (s.sp + 1#16) = .error e) : pop16 s = .error e := by
  have hhi' : memRead { s with sp := s.sp + 1#16 } (s.sp + 1#16) = .error e :=
    (memRead_congr rfl rfl rfl _).trans hhi
  simp only [pop16, pop8, hlo, hhi', bind, Except.bind, pure, Except.pure]

/-- An instruction that pops a word and goes on to `f` of it. -/
theorem popsTo_of_exec {i : Instr} {s : State} {f : Word → State → State}
    (h : exec i s = finish (pop16 s >>= fun r => pure (f r.1 r.2))) : PopsTo i s f :=
  ⟨fun lo hi hlo hhi => by rw [h, pop16_ok hlo hhi]; rfl,
    fun e he => by rw [h, pop16_error_low he]; rfl,
    fun lo e hlo he => by rw [h, pop16_error_high hlo he]; rfl⟩

/-! ## SP and a signed offset -/

/-- The sign extension of R9, written there as a sum, is that of bit vectors. -/
theorem sext16_eq_signExtend (v : Byte) : sext16 v = v.signExtend 16 := by
  apply BitVec.eq_of_toNat_eq
  have hv := v.isLt
  rw [BitVec.toNat_signExtend, BitVec.msb_eq_decide, sext16, zext16]
  by_cases h : v.toNat < 0x80
  · rw [if_pos h, decide_eq_false (by omega)]
    rfl
  · rw [if_neg h, decide_eq_true (by omega), BitVec.toNat_add]
    exact Nat.mod_eq_of_lt (show v.toNat + 65280 < 65536 by omega)

/-- F after a flag write, put together from its flags: the value named, or the old one (R24). -/
theorem apply_eq_flagsByte (w : FlagWrite) (f : Byte) :
    w.apply f =
      flagsByte f (w.z.getD (f.getLsbD 7)) (w.n.getD (f.getLsbD 6)) (w.h.getD (f.getLsbD 5))
        (w.c.getD (f.getLsbD 4)) := by
  refine BitVec.eq_of_getLsbD_eq fun j hj => ?_
  simp only [FlagWrite.apply, getLsbD_putFlag _ _ _ hj, getLsbD_flagsByte _ _ _ _ _ hj]
  interval_cases j <;> rfl

theorem spAdd_res (sp : Word) (e8 : Byte) : (spAdd sp e8).res = sp + e8.signExtend 16 :=
  congrArg (sp + ·) (sext16_eq_signExtend e8)

/-- F after the sum: Z and N cleared, H and C the carries of the low bytes (R143). -/
theorem spAdd_flags_apply (sp : Word) (e8 f : Byte) :
    (spAdd sp e8).flags.apply f =
      flagsByte f false false (decide (sp.toNat % 16 + e8.toNat % 16 > 0xF))
        (decide (sp.toNat % 256 + e8.toNat > 0xFF)) :=
  apply_eq_flagsByte (spAdd sp e8).flags f

/-! ## The instructions -/

/-- Settles O27: the instruction is the word access at its address. -/
theorem storeStackPointer : Obligations.StoreStackPointer := by
  refine fun s lo hi => ⟨encWord_append _ lo hi, fun hlo hhi => ?_, fun e he => ?_⟩
  · obtain ⟨t, ht⟩ := memWrite16_of_supported hlo hhi s s.sp
    exact ⟨t, finish_eq_next.2 ht, memWrite16_wordStored ht⟩
  · exact congrArg finish (memWrite16_error he s s.sp)

/-- Settles O29: the instruction is the push of the pair (`pushPair` is the model's own operation). -/
theorem pushPair_storesPair : Obligations.PushPair := by
  intro s q
  rw [exec_push]
  refine ⟨encode_push q, fun hhi hlo => ?_, fun e he => ?_⟩
  · obtain ⟨t, ht⟩ := push16_of_supported hhi hlo (s.pair q)
    exact ⟨t, pushPair_next.2 ht, push16_wordStored ht⟩
  · exact congrArg finish (push16_error he (s.pair q))

/-- Settles O30: each of the four is a pop that goes on to the write of its pair (`popPair` is the model's own
operation). -/
theorem popPair_loadsPair : Obligations.PopPair :=
  ⟨encode_pop, fun _ => ⟨popsTo_of_exec rfl, popsTo_of_exec rfl, popsTo_of_exec rfl, popsTo_of_exec rfl⟩⟩

theorem withReg16_eq_setReg16 (s : State) (p : Reg16) (v : Word) : withReg16 s p v = s.setReg16 p v := by
  cases p <;> rfl

/-- Settles O26, by the meanings of the family and of `LD SP,HL`. -/
theorem loadWordRegister : Obligations.LoadWordRegister := by
  intro s
  simp only [withReg16_eq_setReg16, hl_eq_pair]
  exact ⟨fun p lo hi => ⟨(encode_ldReg16Imm p _).trans (encWord_append _ lo hi), exec_ldReg16Imm p _ s⟩, rfl, rfl⟩

/-- Settles O28: both instructions write the sum of SP and the offset and its flags. -/
theorem stackPointerPlusOffset : Obligations.StackPointerPlusOffset := by
  rintro s e8 _ _ rfl rfl
  rw [← spAdd_res, ← spAdd_flags_apply]
  exact ⟨⟨rfl, rfl⟩, ⟨rfl, rfl⟩⟩

end Sys2Proof.Machine

/-! The 8-bit arithmetic and logic (R121 to R138): the result and F of each computation on numbers, the operand forms
that the instructions share, and the decimal arithmetic that DAA makes of ADD and SUB. -/

namespace Sys2Proof.Machine

open Sys2Proof.Spec

/-! ## Bytes from numbers -/

theorem ofNat_beq_zero (n : Nat) : (BitVec.ofNat 8 n == 0#8) = decide (n % 256 = 0) := by
  rw [beq_eq_decide, decide_eq_decide, ← BitVec.toNat_inj, BitVec.toNat_ofNat]
  rfl

theorem ofInt_beq_zero (n : Int) : (BitVec.ofInt 8 n == 0#8) = decide (n % 256 = 0) := by
  rw [beq_eq_decide, decide_eq_decide, ← BitVec.toNat_inj, BitVec.toNat_ofInt]
  change (n % 256).toNat = 0 ↔ n % 256 = 0
  omega

/-- A difference narrowed at each step is the difference narrowed at the end (R8). -/
theorem ofInt_sub_ofNat (n : Int) (k : Nat) : BitVec.ofInt 8 n - BitVec.ofNat 8 k = BitVec.ofInt 8 (n - k) := by
  rw [eq_comm, BitVec.eq_sub_iff_add_eq, ← BitVec.ofInt_natCast, ← BitVec.ofInt_add, Int.sub_add_cancel]

theorem ofInt_toNat (v : Byte) : BitVec.ofInt 8 v.toNat = v := by
  rw [BitVec.ofInt_natCast, BitVec.ofNat_toNat, BitVec.setWidth_eq]

theorem sub_ofNat (v : Byte) (k : Nat) : v - BitVec.ofNat 8 k = BitVec.ofInt 8 (v.toNat - k) := by
  rw [← ofInt_sub_ofNat, ofInt_toNat]

theorem add_ofNat (v : Byte) (k : Nat) : v + BitVec.ofNat 8 k = BitVec.ofNat 8 (v.toNat + k) := by
  rw [BitVec.ofNat_add, BitVec.ofNat_toNat, BitVec.setWidth_eq]

/-! ## Flags -/

theorem toNat_flag_c (s : State) : (s.flag .c).toNat = cin s := by
  change (flagC s).toNat = if flagC s then 1 else 0
  cases flagC s <;> rfl

/-- A state after a flag write, with F put together from its flags (R24). -/
theorem writeFlags_eq (s : State) (w : FlagWrite) :
    s.writeFlags w =
      { s with
        f := flagsByte s.f (w.z.getD (flagZ s)) (w.n.getD (flagN s)) (w.h.getD (flagH s)) (w.c.getD (flagC s)) } :=
  congrArg (fun f => { s with f := f }) (apply_eq_flagsByte w s.f)

section
variable {s : State} {old : Byte} {z n h c : Bool} (hf : s.f = flagsByte old z n h c)
include hf

theorem flagN_of_f_eq : flagN s = n := by
  rw [flagN, hf]
  exact getLsbD_flagsByte _ _ _ _ _ (by decide)

theorem flagH_of_f_eq : flagH s = h := by
  rw [flagH, hf]
  exact getLsbD_flagsByte _ _ _ _ _ (by decide)

theorem flagC_of_f_eq : flagC s = c := by
  rw [flagC, hf]
  exact getLsbD_flagsByte _ _ _ _ _ (by decide)

end

/-! ## The computations -/

section
variable (a b f : Byte) (carry : Bool)

/-- F after a sum (R123, R124). -/
theorem add8_flags_apply :
    (add8 a b carry).flags.apply f =
      flagsByte f (decide ((a.toNat + b.toNat + carry.toNat) % 256 = 0)) false
        (decide (a.toNat % 16 + b.toNat % 16 + carry.toNat > 0xF))
        (decide (a.toNat + b.toNat + carry.toNat > 0xFF)) := by
  rw [apply_eq_flagsByte, ← ofNat_beq_zero]
  rfl

theorem sub8_res : (sub8 a b carry).res = BitVec.ofInt 8 (a.toNat - b.toNat - carry.toNat) :=
  calc a - b - BitVec.ofNat 8 carry.toNat
      = a - BitVec.ofNat 8 b.toNat - BitVec.ofNat 8 carry.toNat := by rw [BitVec.ofNat_toNat, BitVec.setWidth_eq]
    _ = BitVec.ofInt 8 (a.toNat - b.toNat) - BitVec.ofNat 8 carry.toNat := by rw [sub_ofNat a]
    _ = BitVec.ofInt 8 (a.toNat - b.toNat - carry.toNat) := ofInt_sub_ofNat _ _

/-- F after a difference (R125, R126). -/
theorem sub8_flags_apply :
    (sub8 a b carry).flags.apply f =
      flagsByte f (decide (((a.toNat : Int) - b.toNat - carry.toNat) % 256 = 0)) true
        (decide (a.toNat % 16 < b.toNat % 16 + carry.toNat)) (decide (a.toNat < b.toNat + carry.toNat)) := by
  rw [apply_eq_flagsByte, ← ofInt_beq_zero, ← sub8_res]
  rfl

/-- The difference of two bytes is zero where they are equal (R130). -/
theorem sub_toNat_emod_eq_zero_iff : ((a.toNat : Int) - b.toNat) % 256 = 0 ↔ a = b := by
  rw [← BitVec.toNat_inj]
  omega

/-- F after a logical operation (R127 to R129). -/
theorem logic8_flags_apply (h : Bool) :
    (logic8 a h).flags.apply f = flagsByte f (decide (a = 0#8)) false h false := by
  rw [apply_eq_flagsByte, ← beq_eq_decide]
  rfl

theorem inc8_res : (inc8 a).res = BitVec.ofNat 8 (a.toNat + 1) :=
  add_ofNat a 1

theorem inc8_flags_apply :
    (inc8 a).flags.apply f =
      flagsByte f (decide (a.toNat = 0xFF)) false (decide (a.toNat % 16 = 0xF)) (f.getLsbD 4) := by
  have hz : (a.toNat + 1) % 256 = 0 ↔ a.toNat = 0xFF := by omega
  rw [apply_eq_flagsByte, ← decide_eq_decide.2 hz, ← ofNat_beq_zero, ← inc8_res]
  rfl

theorem dec8_res : (dec8 a).res = BitVec.ofInt 8 (a.toNat - 1) :=
  sub_ofNat a 1

theorem dec8_flags_apply :
    (dec8 a).flags.apply f =
      flagsByte f (decide (a.toNat = 1)) true (decide (a.toNat % 16 = 0)) (f.getLsbD 4) := by
  have hz : ((a.toNat : Int) - 1) % 256 = 0 ↔ a.toNat = 1 := by omega
  rw [apply_eq_flagsByte, ← decide_eq_decide.2 hz, ← ofInt_beq_zero, ← dec8_res]
  rfl

end

/-! ## The forms of a binary operation (R122) -/

/-- An instruction whose first access fails ends with that fault (R91). -/
theorem finish_bind_error {α : Type} {x : Except Fault α} {e : Fault} (h : x = .error e)
    (g : α → Except Fault State) : finish (x >>= g) = .fault e :=
  congrArg (fun y => finish (y >>= g)) h

theorem readOpnd_eq_operand (s : State) (o : Opnd8) : readOpnd s o = operand s o := by
  cases o with
  | reg r => rfl
  | atHL => rw [operand, hl_eq_pair]; rfl

/-- The three forms of an operation run `aluA` on their right operand. -/
theorem binary_of_aluA {op : AluOp} {s : State} {f : Byte → State} (h : ∀ v, aluA op v s = f v) :
    Binary op (aluCode op) s f := by
  obtain rfl : (aluA op · s) = f := funext h
  refine ⟨fun o => ⟨encode_alu o op, fun v hv => ?_, fun e he => ?_⟩,
    fun n8 => ⟨encode_aluImm n8 op, exec_aluImm op n8 s⟩⟩
  · exact (exec_alu op o s).trans (aluOpnd_next.2 ⟨v, (readOpnd_eq_operand s o).trans hv, rfl⟩)
  · exact (exec_alu op o s).trans (finish_bind_error ((readOpnd_eq_operand s o).trans he) _)

/-- An operation other than CP writes A and F (R121). -/
theorem aluA_of_ne_cp {op : AluOp} (h : op ≠ .cp) (v : Byte) (s : State) :
    aluA op v s =
      { s with
        a := (aluOut op s.cfg.andSetsH s.a v (s.flag .c)).res
        f := (aluOut op s.cfg.andSetsH s.a v (s.flag .c)).flags.apply s.f } := by
  rw [aluA, if_neg h]
  rfl

/-- Settles O31: the two are the sum of `add8`, without and with the carry-in. -/
theorem addAndAddWithCarry : Obligations.AddAndAddWithCarry := by
  refine fun s => ⟨binary_of_aluA fun v => ?_, binary_of_aluA fun v => ?_⟩
  · rw [aluA_of_ne_cp (by decide), aluOut, add8_flags_apply]
    rfl
  · rw [aluA_of_ne_cp (by decide), aluOut, add8_flags_apply, ← toNat_flag_c]
    rfl

/-- Settles O32: the three are the difference of `sub8`, and CP keeps A. -/
theorem subtractAndCompare : Obligations.SubtractAndCompare := by
  refine fun s => ⟨binary_of_aluA fun v => ?_, binary_of_aluA fun v => ?_, binary_of_aluA fun v => ?_⟩
  · rw [aluA_of_ne_cp (by decide), aluOut, sub8_flags_apply, sub8_res, Bool.toNat_false, Int.natCast_zero,
      Int.sub_zero]
    rfl
  · rw [aluA_of_ne_cp (by decide), aluOut, sub8_flags_apply, sub8_res, toNat_flag_c]
  · have hf := sub8_flags_apply s.a v s.f false
    simp only [Bool.toNat_false, Int.natCast_zero, Int.sub_zero, Nat.add_zero, sub_toNat_emod_eq_zero_iff] at hf
    rw [← hf]
    rfl

/-- Settles O33: each of the three is `logic8` of its own bitwise operation. -/
theorem bitwiseLogic : Obligations.BitwiseLogic := by
  refine fun s => ⟨binary_of_aluA fun v => ?_, binary_of_aluA fun v => ?_, binary_of_aluA fun v => ?_⟩ <;>
    rw [aluA_of_ne_cp (by decide), aluOut, logic8_flags_apply] <;> rfl

/-! ## Read, modify and write of an operand (R132, R149) -/

/-- A write to memory neither reads nor writes F, so it goes past a flag write. -/
theorem memWrite_writeFlags (s : State) (w : FlagWrite) (a : Word) (v : Byte) :
    memWrite (s.writeFlags w) a v = (memWrite s a v).map (·.writeFlags w) := by
  unfold memWrite
  cases regionOf a <;> rfl

/-- An instruction that replaces its operand by a result and writes the flags of that result. -/
theorem replaces_of_exec {i : Instr} {s : State} {o : Opnd8} {out : Byte → AluOut}
    (h : exec i s = finish (do
      let v ← readOpnd s o
      let s₁ ← writeOpnd s o (out v).res
      pure (s₁.writeFlags (out v).flags))) :
    Replaces i s o (fun v => (out v).res) fun v => (out v).flags.apply s.f := by
  cases o with
  | reg r => cases r <;> exact h
  | atHL =>
    rw [Replaces, hl_eq_pair]
    refine ⟨fun v hv => ?_, fun e he => ?_⟩
    · have hsup : ¬ Unsupported (s.pair .hl) := fun hu => by cases (memRead_unsupported hu).symm.trans hv
      obtain ⟨s₁, hs₁⟩ := memWrite_of_supported hsup s (out v).res
      have hexec : exec i s = .next (s₁.writeFlags (out v).flags) :=
        h.trans (finish_bind.2 ⟨v, hv, congrArg (· >>= _) hs₁⟩)
      have hstore : memWrite (s.writeFlags (out v).flags) (s.pair .hl) (out v).res =
          .ok (s₁.writeFlags (out v).flags) := by rw [memWrite_writeFlags, hs₁]; rfl
      exact ⟨_, hexec, memWrite_byteStored hstore⟩
    · exact h.trans (finish_bind_error he _)

/-- Settles O34: both read, modify and write their operand. -/
theorem incrementAndDecrementByte : Obligations.IncrementAndDecrementByte := by
  refine fun s o => ⟨⟨encode_inc8 o, ?_⟩, ⟨encode_dec8 o, ?_⟩⟩
  · have h := replaces_of_exec (exec_inc8 o s)
    simp only [inc8_res, inc8_flags_apply] at h
    exact h
  · have h := replaces_of_exec (exec_dec8 o s)
    simp only [dec8_res, dec8_flags_apply] at h
    exact h

/-! ## CPL, SCF and CCF -/

/-- Settles O37: each is a flag write, and CPL writes A too. -/
theorem complementAndCarryFlag : Obligations.ComplementAndCarryFlag :=
  fun s => ⟨⟨rfl, congrArg _ (writeFlags_eq (s.setReg .a (s.a ^^^ 0xFF#8)) _)⟩,
    ⟨rfl, congrArg _ (writeFlags_eq s _)⟩, ⟨rfl, congrArg _ (writeFlags_eq s _)⟩⟩

/-! ## DAA (R135) -/

/-- The two corrections of a DAA, added as bytes, are their sum as numbers. -/
theorem correction_eq_ofNat (high low : Prop) [Decidable high] [Decidable low] :
    (if high then 0x60#8 else 0x00#8) + (if low then 0x06#8 else 0x00#8) =
      BitVec.ofNat 8 ((if high then 0x60 else 0) + (if low then 0x06 else 0)) := by
  by_cases hh : high <;> by_cases hl : low <;> simp only [hh, hl, if_true, if_false] <;> rfl

section
variable {a : Byte} {h c : Bool} {high low : Nat}

theorem daa8_res_afterAdd (hhigh : high = if c ∨ a.toNat > 0x99 then 0x60 else 0)
    (hlow : low = if h ∨ a.toNat % 16 > 9 then 0x06 else 0) :
    (daa8 a false h c).res = BitVec.ofNat 8 (a.toNat + high + low) := by
  rw [hhigh, hlow, Nat.add_assoc, ← add_ofNat, ← correction_eq_ofNat]
  simp [daa8, lowNibble]

theorem daa8_res_afterSub (hhigh : high = if c then 0x60 else 0) (hlow : low = if h then 0x06 else 0) :
    (daa8 a true h c).res = BitVec.ofInt 8 (a.toNat - high - low) := by
  rw [hhigh, hlow, Int.sub_sub, ← Int.natCast_add, ← sub_ofNat, ← correction_eq_ofNat]
  rfl

end

theorem exec_daa_eq (s : State) :
    exec .daa s = .next { s with
      a := (daa8 s.a (flagN s) (flagH s) (flagC s)).res
      f := flagsByte s.f ((daa8 s.a (flagN s) (flagH s) (flagC s)).res == 0#8) (flagN s) false
        (if flagN s then flagC s else flagC s || decide (s.a.toNat > 0x99)) } :=
  congrArg _ (writeFlags_eq (s.setReg .a (daa8 s.a (flagN s) (flagH s) (flagC s)).res) _)

/-- Settles O35, for the two values of N. -/
theorem decimalAdjust : Obligations.DecimalAdjust := by
  refine ⟨rfl, fun s => ⟨fun hn high low hhigh hlow => ?_, fun hn high low hhigh hlow => ?_⟩⟩
  · rw [exec_daa_eq, hn, daa8_res_afterAdd hhigh hlow, ofNat_beq_zero]
    rfl
  · rw [exec_daa_eq, hn, daa8_res_afterSub hhigh hlow, ofInt_beq_zero]
    rfl

/-! ## Decimal arithmetic -/

section
variable {x y : Nat} (hx : x < 100) (hy : y < 100)

theorem toNat_bcd {n : Nat} (h : n < 100) : (bcd n).toNat = n / 10 * 16 + n % 10 := by
  rw [bcd, BitVec.toNat_ofNat]
  omega

theorem eq_bcd_of_toNat {v : Byte} {n : Nat} (hn : n < 100) (h : v.toNat = n / 10 * 16 + n % 10) : v = bcd n :=
  BitVec.eq_of_toNat_eq (h.trans (toNat_bcd hn).symm)

include hx hy

/-- After ADD of two decimal bytes DAA corrects the high digit where the decimal sum has a third digit. -/
theorem bcd_add_high_iff :
    (bcd x).toNat + (bcd y).toNat > 0xFF ∨ ((bcd x).toNat + (bcd y).toNat) % 256 > 0x99 ↔ 100 ≤ x + y :=
  calc _ ↔ (bcd x).toNat + (bcd y).toNat > 0x99 := by omega
    _ ↔ 100 ≤ x + y := by rw [toNat_bcd hx, toNat_bcd hy]; omega

/-- After ADD of two decimal bytes DAA corrects the low digit where the low digits carry. -/
theorem bcd_add_low_iff :
    (bcd x).toNat % 16 + (bcd y).toNat % 16 > 0xF ∨ ((bcd x).toNat + (bcd y).toNat) % 256 % 16 > 9 ↔
      10 ≤ x % 10 + y % 10 := by
  rw [toNat_bcd hx, toNat_bcd hy]
  omega

theorem bcd_add_corrected :
    BitVec.ofNat 8 (((bcd x).toNat + (bcd y).toNat) % 256 + (if 100 ≤ x + y then 0x60 else 0) +
      (if 10 ≤ x % 10 + y % 10 then 0x06 else 0)) = bcd ((x + y) % 100) := by
  refine eq_bcd_of_toNat (Nat.mod_lt _ (by decide)) ?_
  rw [BitVec.toNat_ofNat, toNat_bcd hx, toNat_bcd hy]
  split_ifs <;> omega

/-- Decimal bytes are ordered as their numbers, so SUB borrows where the decimal difference is negative. -/
theorem bcd_lt_iff : (bcd x).toNat < (bcd y).toNat ↔ x < y := by
  rw [toNat_bcd hx, toNat_bcd hy]
  omega

theorem bcd_low_lt_iff : (bcd x).toNat % 16 < (bcd y).toNat % 16 ↔ x % 10 < y % 10 := by
  rw [toNat_bcd hx, toNat_bcd hy]
  omega

theorem bcd_sub_corrected :
    BitVec.ofInt 8 ((BitVec.ofInt 8 ((bcd x).toNat - (bcd y).toNat)).toNat - (if x < y then 0x60 else 0 : Nat) -
      (if x % 10 < y % 10 then 0x06 else 0 : Nat)) = bcd ((x + 100 - y) % 100) := by
  refine eq_bcd_of_toNat (Nat.mod_lt _ (by decide)) ?_
  rw [BitVec.toNat_ofInt, BitVec.toNat_ofInt, toNat_bcd hx, toNat_bcd hy]
  split_ifs <;> omega

section
variable {t : State} {old : Byte} {z : Bool}

/-- DAA from the A and the F that ADD leaves of two decimal bytes. -/
theorem exec_daa_afterAdd (ha : t.a = BitVec.ofNat 8 ((bcd x).toNat + (bcd y).toNat))
    (hf : t.f = flagsByte old z false (decide ((bcd x).toNat % 16 + (bcd y).toNat % 16 > 0xF))
      (decide ((bcd x).toNat + (bcd y).toNat > 0xFF))) :
    ∃ u, exec .daa t = .next u ∧ u.a = bcd ((x + y) % 100) ∧ flagC u = decide (100 ≤ x + y) := by
  have hhigh : flagC t = true ∨ t.a.toNat > 0x99 ↔ 100 ≤ x + y := by
    rw [flagC_of_f_eq hf, ha, decide_eq_true_iff, BitVec.toNat_ofNat]
    exact bcd_add_high_iff hx hy
  have hlow : flagH t = true ∨ t.a.toNat % 16 > 9 ↔ 10 ≤ x % 10 + y % 10 := by
    rw [flagH_of_f_eq hf, ha, decide_eq_true_iff, BitVec.toNat_ofNat]
    exact bcd_add_low_iff hx hy
  refine ⟨_, (decimalAdjust.2 t).1 (flagN_of_f_eq hf) _ _ (if_congr hhigh rfl rfl).symm
    (if_congr hlow rfl rfl).symm, ?_, ?_⟩
  · rw [ha, BitVec.toNat_ofNat]
    exact bcd_add_corrected hx hy
  · rw [flagC_of_f_eq rfl, ← decide_eq_decide.2 hhigh, Bool.decide_or, Bool.decide_eq_true]

/-- DAA from the A and the F that SUB leaves of two decimal bytes. -/
theorem exec_daa_afterSub (ha : t.a = BitVec.ofInt 8 ((bcd x).toNat - (bcd y).toNat))
    (hf : t.f = flagsByte old z true (decide ((bcd x).toNat % 16 < (bcd y).toNat % 16))
      (decide ((bcd x).toNat < (bcd y).toNat))) :
    ∃ u, exec .daa t = .next u ∧ u.a = bcd ((x + 100 - y) % 100) ∧ flagC u = decide (x < y) := by
  have hc : flagC t = decide (x < y) := (flagC_of_f_eq hf).trans (decide_eq_decide.2 (bcd_lt_iff hx hy))
  have hh : flagH t = decide (x % 10 < y % 10) :=
    (flagH_of_f_eq hf).trans (decide_eq_decide.2 (bcd_low_lt_iff hx hy))
  refine ⟨_, (decimalAdjust.2 t).2 (flagN_of_f_eq hf) (if x < y then 0x60 else 0)
    (if x % 10 < y % 10 then 0x06 else 0) ?_ ?_, ?_, ?_⟩
  · simp only [hc, decide_eq_true_iff]
  · simp only [hh, decide_eq_true_iff]
  · rw [ha]
    exact bcd_sub_corrected hx hy
  · rw [flagC_of_f_eq rfl, hc]

end

end

/-- Settles O36: the rules of ADD, SUB and DAA composed. -/
theorem decimalAdjustGivesDecimalArithmetic : Obligations.DecimalAdjustGivesDecimalArithmetic := by
  intro s x y hx hy ha
  constructor
  · obtain ⟨⟨-, himm⟩, -⟩ := addAndAddWithCarry s
    obtain ⟨-, hadd⟩ := himm (bcd y)
    rw [ha] at hadd
    obtain ⟨u, hdaa⟩ := exec_daa_afterAdd hx hy (t := { s with a := _, f := _ }) rfl rfl
    exact ⟨_, u, hadd, hdaa⟩
  · obtain ⟨⟨-, himm⟩, -⟩ := subtractAndCompare s
    obtain ⟨-, hsub⟩ := himm (bcd y)
    rw [ha] at hsub
    obtain ⟨u, hdaa⟩ := exec_daa_afterSub hx hy (t := { s with a := _, f := _ }) rfl rfl
    exact ⟨_, u, hsub, hdaa⟩

end Sys2Proof.Machine

/-! The 16-bit arithmetic (R140 to R142): the words it reads, the word that INC and DEC write as a number, and F after
the sum of HL and a word. -/

namespace Sys2Proof.Machine

open Sys2Proof.Spec

/-! ## Words -/

/-- A word put together from its bytes as numbers (R19). -/
theorem ofNat_eq_concat (hi lo : Byte) : BitVec.ofNat 16 (hi.toNat * 256 + lo.toNat) = concat hi lo := by
  rw [← toNat_concat, BitVec.ofNat_toNat, BitVec.setWidth_eq]

/-- The register of the field `pp` as the obligations read it is the model's (R64). -/
theorem reg16_eq_state_reg16 (s : State) (p : Reg16) : reg16 s p = s.reg16 p := by
  cases p with
  | bc => exact ofNat_eq_concat s.b s.c
  | de => exact ofNat_eq_concat s.d s.e
  | hl => exact hl_eq_pair s
  | sp => rfl

/-- A word stepped up is its successor narrowed (R8). -/
theorem word_add_one (v : Word) : v + 1#16 = BitVec.ofNat 16 (v.toNat + 1) := by
  rw [BitVec.ofNat_add, BitVec.ofNat_toNat, BitVec.setWidth_eq]

/-- A word stepped down is its predecessor narrowed (R8). -/
theorem word_sub_one (v : Word) : v - 1#16 = BitVec.ofInt 16 (v.toNat - 1) := by
  rw [eq_comm, BitVec.eq_sub_iff_add_eq]
  calc BitVec.ofInt 16 (v.toNat - 1) + BitVec.ofInt 16 1
      = BitVec.ofInt 16 v.toNat := by rw [← BitVec.ofInt_add, Int.sub_add_cancel]
    _ = v := by rw [BitVec.ofInt_natCast, BitVec.ofNat_toNat, BitVec.setWidth_eq]

/-! ## The sum of HL and a word -/

theorem add16_res (a b : Word) : (add16 a b).res = BitVec.ofNat 16 (a.toNat + b.toNat) :=
  rfl

/-- F after the sum: Z left, N cleared, H and C the carries out of bits 11 and 15 (R142). -/
theorem add16_flags_apply (a b : Word) (f : Byte) :
    (add16 a b).flags.apply f =
      flagsByte f (f.getLsbD 7) false (decide (a.toNat % 0x1000 + b.toNat % 0x1000 > 0x0FFF))
        (decide (a.toNat + b.toNat > 0xFFFF)) :=
  apply_eq_flagsByte (add16 a b).flags f

/-! ## The instructions -/

/-- Settles O38: the two write the stepped word to their register and nothing else. -/
theorem incrementAndDecrementWord : Obligations.IncrementAndDecrementWord := by
  intro s p
  rw [withReg16_eq_setReg16, withReg16_eq_setReg16, reg16_eq_state_reg16, ← word_add_one, ← word_sub_one]
  exact ⟨⟨encode_incReg16 p, exec_incReg16 p s⟩, ⟨encode_decReg16 p, exec_decReg16 p s⟩⟩

/-- Settles O39: the instruction writes the sum to HL and its flags to F. -/
theorem addWordToHL : Obligations.AddWordToHL := by
  rintro s p _ _ rfl rfl
  rw [hl_eq_pair, reg16_eq_state_reg16, exec_addHL, flagZ, ← add16_res, ← add16_flags_apply]
  exact ⟨encode_addHL p, rfl⟩

end Sys2Proof.Machine

/-! The rotates, the shifts and the bit instructions (R147 to R164): the rotates on numbers, one bit of a byte, and the
condition that `CB_ENABLED` puts on the CB map. -/

namespace Sys2Proof.Machine

open Sys2Proof.Spec

/-! ## The bits of a byte as numbers -/

theorem toNat_carryByte (c : Bool) : (carryByte c).toNat = c.toNat := by
  cases c <;> rfl

theorem getLsbD_eq_decide (v : Byte) (i : Nat) : v.getLsbD i = decide (v.toNat / 2 ^ i % 2 = 1) :=
  Nat.testBit_eq_decide_div_mod_eq

section
variable (v : Byte)

theorem getLsbD_seven : v.getLsbD 7 = decide (v.toNat / 128 = 1) := by
  rw [getLsbD_eq_decide, decide_eq_decide]
  omega

theorem toNat_getLsbD_seven : (v.getLsbD 7).toNat = v.toNat / 128 := by
  rw [BitVec.getLsbD, Nat.toNat_testBit]
  omega

theorem getLsbD_zero : v.getLsbD 0 = decide (v.toNat % 2 = 1) := by
  rw [getLsbD_eq_decide, pow_zero, Nat.div_one]

theorem toNat_getLsbD_zero : (v.getLsbD 0).toNat = v.toNat % 2 := by
  rw [BitVec.getLsbD, Nat.toNat_testBit, pow_zero, Nat.div_one]

end

/-! ## Rotates and shifts on numbers (R147, R148) -/

/-- A byte put together from a high part and a part below bit `i` is their sum. -/
theorem toNat_or_eq_add {hi lo : Byte} {i k : Nat} (hhi : hi.toNat = 2 ^ i * k) (hlo : lo.toNat < 2 ^ i) :
    (hi ||| lo).toNat = hi.toNat + lo.toNat := by
  rw [BitVec.toNat_or, hhi, Nat.two_pow_add_eq_or_of_lt hlo]

section
variable (v : Byte)

theorem toNat_shiftLeft_one : (v <<< 1).toNat = v.toNat * 2 % 256 := by
  rw [BitVec.toNat_shiftLeft, Nat.shiftLeft_eq]

theorem toNat_shiftRight_one : (v >>> 1).toNat = v.toNat / 2 :=
  Nat.shiftRight_eq_div_pow _ 1

/-- A bit shifted in at the right. -/
theorem toNat_shiftLeft_or_carry (c : Bool) : ((v <<< 1) ||| carryByte c).toNat = v.toNat * 2 % 256 + c.toNat := by
  have hhi : (v <<< 1).toNat = 2 ^ 1 * (v.toNat % 128) := by
    rw [toNat_shiftLeft_one]
    omega
  rw [toNat_or_eq_add hhi (by rw [toNat_carryByte]; exact c.toNat_lt), toNat_shiftLeft_one, toNat_carryByte]

/-- A bit shifted in at the left. -/
theorem toNat_shiftRight_or_carry (c : Bool) :
    ((v >>> 1) ||| (carryByte c <<< 7)).toNat = v.toNat / 2 + 128 * c.toNat := by
  have hhi : (carryByte c <<< 7).toNat = 128 * c.toNat := by cases c <;> rfl
  have hlo : (v >>> 1).toNat < 2 ^ 7 := by
    rw [toNat_shiftRight_one]
    omega
  rw [BitVec.or_comm, toNat_or_eq_add (i := 7) hhi hlo, hhi, toNat_shiftRight_one, Nat.add_comm]

/-- SRA shifts bit 7 in again. -/
theorem and_signBit : v &&& 0x80#8 = carryByte (v.getLsbD 7) <<< 7 := by
  rw [show 0x80#8 = BitVec.twoPow 8 7 from rfl, BitVec.and_twoPow]
  cases v.getLsbD 7 <;> rfl

theorem toNat_swap : ((v >>> 4) ||| (v <<< 4)).toNat = v.toNat / 16 + 16 * (v.toNat % 16) := by
  have hhi : (v <<< 4).toNat = 16 * (v.toNat % 16) := by
    rw [BitVec.toNat_shiftLeft, Nat.shiftLeft_eq]
    omega
  have hlo : (v >>> 4).toNat = v.toNat / 16 := Nat.shiftRight_eq_div_pow _ 4
  rw [BitVec.or_comm, toNat_or_eq_add (i := 4) hhi (by omega), hhi, hlo, Nat.add_comm]

variable (op : RotOp) (c : Bool)

theorem toNat_rotate8_fst : (rotate8 op v c).1.toNat = (rotated op v.toNat c.toNat).1 := by
  cases op with
  | rlc => rw [rotate8, toNat_shiftLeft_or_carry, toNat_getLsbD_seven, rotated]
  | rrc => rw [rotate8, toNat_shiftRight_or_carry, toNat_getLsbD_zero, rotated]
  | rl => exact toNat_shiftLeft_or_carry v c
  | rr => exact toNat_shiftRight_or_carry v c
  | sla => exact toNat_shiftLeft_one v
  | sra => rw [rotate8, and_signBit, toNat_shiftRight_or_carry, toNat_getLsbD_seven, rotated]
  | swap => exact toNat_swap v
  | srl => exact toNat_shiftRight_one v

theorem rotate8_snd : (rotate8 op v c).2 = (rotated op v.toNat c.toNat).2 := by
  cases op with
  | rlc | rl | sla => exact getLsbD_seven v
  | rrc | rr | sra | srl => exact getLsbD_zero v
  | swap => rfl

theorem rotate8_fst : (rotate8 op v c).1 = BitVec.ofNat 8 (rotated op v.toNat c.toNat).1 := by
  rw [← toNat_rotate8_fst, BitVec.ofNat_toNat, BitVec.setWidth_eq]

theorem rotOut_flags_apply (f : Byte) :
    (rotOut op v c).flags.apply f =
      flagsByte f (decide ((rotated op v.toNat c.toNat).1 = 0)) false false (rotated op v.toNat c.toNat).2 := by
  have hz : ((rotate8 op v c).1 == 0#8) = decide ((rotated op v.toNat c.toNat).1 = 0) := by
    rw [beq_eq_decide, ← toNat_rotate8_fst, decide_eq_decide, ← BitVec.toNat_inj]
    rfl
  rw [apply_eq_flagsByte, ← rotate8_snd, ← hz]
  rfl

end

/-- The accumulator rotates write A and F, with Z cleared. -/
theorem writeA_accRotOut (op : RotOp) (s : State) :
    writeA (accRotOut op s.a (s.flag .c)) s = .next { s with
      a := BitVec.ofNat 8 (rotated op s.a.toNat (cin s)).1
      f := flagsByte s.f false false false (rotated op s.a.toNat (cin s)).2 } := by
  rw [← toNat_flag_c, ← rotate8_fst, ← rotate8_snd, writeA, writeFlags_eq]
  rfl

/-- Settles O40: each of the four is the rotate of its name, on A. -/
theorem accumulatorRotates : Obligations.AccumulatorRotates := by
  intro s r hr
  simp only [hr]
  exact ⟨⟨rfl, writeA_accRotOut .rlc s⟩, ⟨rfl, writeA_accRotOut .rrc s⟩, ⟨rfl, writeA_accRotOut .rl s⟩,
    ⟨rfl, writeA_accRotOut .rr s⟩⟩

/-! ## The CB map and `CB_ENABLED` (R149) -/

theorem cbOnly_of_enabled {s : State} (h : s.cfg.cbEnabled = true) (r : Result) : cbOnly s r = r :=
  if_pos h

theorem cbOnly_of_disabled {s : State} (h : s.cfg.cbEnabled = false) (r : Result) :
    cbOnly s r = .fault (.unimplementedOpcode 0xCB#8 (s.pc - 2#16)) := by
  rw [cbOnly, h]
  rfl

/-- `CB_ENABLED` changes how the byte 0xCB is read, and no other opcode. -/
theorem instrOf_of_ne_prefix {op : Byte} (h : op ≠ 0xCB#8) (cb cb' : Bool) (b1 b2 : Byte) :
    instrOf cb op b1 b2 = instrOf cb' op b1 b2 := by
  unfold instrOf
  split
  case h_12 hop => exact absurd (BitVec.eq_of_toNat_eq hop) h
  all_goals rfl

/-- An instruction of the CB map is the one that some CB opcode decodes to (R77). -/
theorem exists_decodeCb {i : Instr} (hk : i.kind = .cbTable) : ∃ o, decodeCb o = i := by
  obtain ⟨op, b1, b2, rfl⟩ := exists_instrOf (cb := true) (i := i) (by rw [Instr.wf, hk])
  by_cases hop : op = 0xCB#8
  · obtain rfl := hop
    exact ⟨b1, rfl⟩
  · rw [instrOf_of_ne_prefix hop true false] at hk
    exact nomatch cb_of_cbTable (instrOf_wf false op b1 b2) hk

/-- Settles O10: each family of the CB map runs under `cbOnly`. -/
theorem cbMapNeedsCbEnabled : Obligations.CbMapNeedsCbEnabled := by
  intro i s hk hcb
  obtain ⟨o, rfl⟩ := exists_decodeCb hk
  refine decodeCb_family (P := fun i => exec i s = .fault (.unimplementedOpcode 0xCB#8 (s.pc - 2#16))) o
    (fun op x => ?_) (fun b x => ?_) (fun b x => ?_) (fun b x => ?_)
  · rw [exec_rot, cbOnly_of_disabled hcb]
  · rw [exec_bit, cbOnly_of_disabled hcb]
  · rw [exec_res, cbOnly_of_disabled hcb]
  · rw [exec_set, cbOnly_of_disabled hcb]

/-- Settles O41: the instruction replaces its operand by the rotate of it. -/
theorem cbRotatesAndShifts : Obligations.CbRotatesAndShifts := by
  intro s op o hcb
  have hrot : Replaces (Instr.rot op o) s o (fun v => (rotate8 op v (s.flag .c)).1)
      fun v => (rotOut op v (s.flag .c)).flags.apply s.f :=
    replaces_of_exec ((exec_rot op o s).trans (cbOnly_of_enabled hcb _))
  simp only [rotate8_fst, rotOut_flags_apply, toNat_flag_c] at hrot
  exact ⟨encode_rot o op, hrot⟩

/-! ## One bit of an operand (R162 to R164) -/

/-- F after BIT: Z the complement of the bit, C left (R162). -/
theorem bitFlags_apply (b : Fin 8) (v f : Byte) :
    (bitFlags b v).apply f = flagsByte f (decide (v.toNat / 2 ^ b.val % 2 = 0)) false true (f.getLsbD 4) := by
  have hz : (!v.getLsbD b.val) = decide (v.toNat / 2 ^ b.val % 2 = 0) := by
    rw [getLsbD_eq_decide, ← decide_not, decide_eq_decide]
    omega
  rw [apply_eq_flagsByte, ← hz]
  rfl

/-- Settles O42: the instruction reads its operand and writes F. -/
theorem cbBitTest : Obligations.CbBitTest := by
  intro s b o hcb
  have hexec : exec (Instr.bit b o) s = bitOpnd b o s := (exec_bit b o s).trans (cbOnly_of_enabled hcb _)
  refine ⟨encode_bit o b, fun v hv => ?_, fun e he => ?_⟩
  · rw [hexec, bitOpnd_next.2 ⟨v, (readOpnd_eq_operand s o).trans hv, rfl⟩, State.writeFlags, bitFlags_apply]
    rfl
  · exact hexec.trans (finish_bind_error ((readOpnd_eq_operand s o).trans he) _)

/-- A result that writes no flag. -/
def unflagged (v : Byte) : AluOut :=
  { res := v, flags := { z := none, n := none, h := none, c := none } }

theorem writeFlags_unflagged (s : State) (v : Byte) : s.writeFlags (unflagged v).flags = s :=
  rfl

/-- An instruction that replaces its operand and writes no flag. -/
theorem replaces_of_exec_unflagged {i : Instr} {s : State} {o : Opnd8} {res : Byte → Byte}
    (h : exec i s = finish (do
      let v ← readOpnd s o
      writeOpnd s o (res v))) :
    Replaces i s o res fun _ => s.f := by
  refine replaces_of_exec (out := fun v => unflagged (res v)) (h.trans ?_)
  simp only [writeFlags_unflagged, bind_pure]
  rfl

theorem one_shiftLeft (i : Nat) : 1#8 <<< i = BitVec.ofNat 8 (2 ^ i) :=
  BitVec.eq_of_toNat_eq ((BitVec.toNat_twoPow 8 i).trans (BitVec.toNat_ofNat (2 ^ i) 8).symm)

theorem putBit_false (v : Byte) (i : Nat) : putBit v i false = v &&& ~~~(BitVec.ofNat 8 (2 ^ i)) :=
  congrArg (v &&& ~~~ ·) (one_shiftLeft i)

theorem putBit_true (v : Byte) (i : Nat) : putBit v i true = v ||| BitVec.ofNat 8 (2 ^ i) :=
  congrArg (v ||| ·) (one_shiftLeft i)

/-- Settles O43: the instruction replaces its operand by it with one bit written. -/
theorem cbBitResetAndSet : Obligations.CbBitResetAndSet := by
  intro s b o hcb
  have hres := replaces_of_exec_unflagged ((exec_res b o s).trans (cbOnly_of_enabled hcb _))
  have hset := replaces_of_exec_unflagged ((exec_set b o s).trans (cbOnly_of_enabled hcb _))
  simp only [putBit_false] at hres
  simp only [putBit_true] at hset
  exact ⟨⟨encode_res o b, hres⟩, ⟨encode_set o b, hset⟩⟩

end Sys2Proof.Machine

/-! Control transfer (R165 to R175): the conditions as the flags they read, the jumps, and the calls and returns as the
push and the pop that they make. -/

namespace Sys2Proof.Machine

open Sys2Proof.Spec

/-! ## Conditions and targets -/

theorem holds_eq_condHolds (s : State) (cc : Cond) : s.holds cc = condHolds s cc := by
  cases cc <;> rfl

theorem relativeTarget_eq_signExtend (pcNext : Word) (e8 : Byte) :
    relativeTarget pcNext e8 = pcNext + e8.signExtend 16 :=
  congrArg (pcNext + ·) (sext16_eq_signExtend e8)

theorem restartTarget_eq_ofNat (y : Fin 8) : restartTarget y = BitVec.ofNat 16 (8 * y.val) :=
  congrArg (BitVec.ofNat 16) (Nat.mul_comm y.val 8)

/-! ## The conditional forms: taken, and not taken (R88) -/

theorem jumpIf_eq (cc : Cond) (target : Word) (s : State) :
    jumpIf cc target s = .next (if condHolds s cc then { s with pc := target } else s) := by
  rw [jumpIf, holds_eq_condHolds]
  exact (apply_ite _ _ _ _).symm

section
variable {s : State} {cc : Cond} (target : Word)

theorem callIf_taken (h : condHolds s cc = true) : callIf cc target s = callTo target s :=
  if_pos ((holds_eq_condHolds s cc).trans h)

theorem callIf_not_taken (h : condHolds s cc = false) : callIf cc target s = .next s :=
  if_neg (Bool.eq_false_iff.1 ((holds_eq_condHolds s cc).trans h))

theorem returnIf_taken (h : condHolds s cc = true) : returnIf cc s = finish (returnFrom s) :=
  if_pos ((holds_eq_condHolds s cc).trans h)

theorem returnIf_not_taken (h : condHolds s cc = false) : returnIf cc s = .next s :=
  if_neg (Bool.eq_false_iff.1 ((holds_eq_condHolds s cc).trans h))

end

/-! ## Calls -/

/-- PC is no part of memory, so a store has the same effect around a write of PC. -/
theorem wordStored_setPc {s t : State} {addr v : Word} (h : WordStored s t addr v) (target : Word) :
    WordStored { s with pc := target } { t with pc := target } addr v := by
  have hpc (r : State) (x : Word) : memRead { r with pc := target } x = memRead r x := memRead_congr rfl rfl rfl x
  obtain ⟨hframe, hbytes⟩ := h
  refine ⟨by rw [hframe], ?_⟩
  simpa only [HoldsAfter, hpc] using hbytes

/-- An instruction that is a call: the push of `pc_next`, and then the write of PC. -/
theorem callsTo_of_callTo {i : Instr} {s : State} {target : Word} (h : exec i s = callTo target s) :
    CallsTo i s target := by
  refine ⟨fun hhi hlo => ?_, fun e he => ?_⟩
  · obtain ⟨t, ht⟩ := push16_of_supported hhi hlo s.pc
    exact ⟨{ t with pc := target }, h.trans (callTo_next.2 ⟨t, ht, rfl⟩),
      wordStored_setPc (push16_wordStored ht) target⟩
  · exact h.trans (finish_bind_error (push16_error he s.pc) _)

/-! ## Returns -/

/-- An instruction that is a return: the pop of a word into PC. -/
theorem popsTo_of_returnFrom {i : Instr} {s : State} (h : exec i s = finish (returnFrom s)) :
    PopsTo i s fun v t => { t with pc := v } :=
  popsTo_of_exec h

/-- RETI is a pop that goes on to the write of PC and IME (R174). -/
theorem exec_reti_eq (s : State) :
    exec .reti s = finish (pop16 s >>= fun r => pure { r.2 with pc := r.1, ime := true }) := by
  change finish (returnFrom s >>= fun u => pure { u with ime := true }) = _
  rw [returnFrom, bind_assoc]
  rfl

/-! ## The instructions -/

/-- Settles O46: each of the three is a call to its target, where its condition holds. -/
theorem callsAndRestarts : Obligations.CallsAndRestarts := by
  refine fun s => ⟨fun lo hi => ⟨encWord_append _ lo hi, callsTo_of_callTo rfl⟩,
    fun cc lo hi => ⟨(encode_callCond cc _).trans (encWord_append _ lo hi), fun hcc => ?taken, fun hcc => ?notTaken⟩,
    fun y => ⟨encode_rst y, ?restart⟩⟩
  case taken => exact callsTo_of_callTo ((exec_callCond cc _ s).trans (callIf_taken _ hcc))
  case notTaken => exact (exec_callCond cc _ s).trans (callIf_not_taken _ hcc)
  case restart => exact restartTarget_eq_ofNat y ▸ callsTo_of_callTo (exec_rst y s)

/-- Settles O47: each of the three is a pop into PC, where its condition holds. -/
theorem returns : Obligations.Returns := by
  refine fun s => ⟨⟨rfl, popsTo_of_returnFrom rfl⟩,
    fun cc => ⟨encode_retCond cc, fun hcc => ?taken, fun hcc => ?notTaken⟩,
    ⟨rfl, popsTo_of_exec (exec_reti_eq s)⟩⟩
  case taken => exact popsTo_of_returnFrom ((exec_retCond cc s).trans (returnIf_taken hcc))
  case notTaken => exact (exec_retCond cc s).trans (returnIf_not_taken hcc)

/-- Settles O44: each of the three writes PC, where its condition holds. -/
theorem jumps : Obligations.Jumps := by
  intro s lo hi
  rw [hl_eq_pair]
  exact ⟨⟨encWord_append _ lo hi, rfl⟩,
    fun cc => ⟨(encode_jpCond cc _).trans (encWord_append _ lo hi), (exec_jpCond cc _ s).trans (jumpIf_eq cc _ s)⟩,
    ⟨rfl, rfl⟩⟩

/-- Settles O45: both are jumps to the sum of `pc_next` and the sign-extended offset. -/
theorem relativeJumps : Obligations.RelativeJumps := by
  intro s e8
  rw [← relativeTarget_eq_signExtend]
  exact ⟨⟨rfl, rfl⟩, fun cc => ⟨encode_jrCond cc e8, (exec_jrCond cc e8 s).trans (jumpIf_eq cc _ s)⟩⟩

end Sys2Proof.Machine

/-! The system instructions, the undefined opcodes, the 0xCB byte and the launch state (R176 to R182, R196 to R200). -/

namespace Sys2Proof.Machine

open Sys2Proof.Spec

/-! ## The 0xCB byte (R181) -/

section
variable {s : State} {o : Byte}

theorem exec_prefix_cb_of_disabled (hcb : s.cfg.cbEnabled = false) :
    exec .prefix_cb s = .fault (.unimplementedOpcode 0xCB#8 (s.pc - 1#16)) :=
  if_neg (Bool.eq_false_iff.1 hcb)

theorem exec_prefix_cb_of_fetch (hcb : s.cfg.cbEnabled = true) (ho : memRead s s.pc = .ok o) :
    exec .prefix_cb s = runCbOpcode o { s with pc := s.pc + 1#16 } := by
  change exec_prefix_cb s = _
  rw [exec_prefix_cb, if_pos hcb, fetchByte_ok ho]

theorem exec_prefix_cb_of_fetch_error {e : Fault} (hcb : s.cfg.cbEnabled = true) (he : memRead s s.pc = .error e) :
    exec .prefix_cb s = .fault e := by
  change exec_prefix_cb s = _
  rw [exec_prefix_cb, if_pos hcb, fetchByte_error he]
  rfl

theorem decode_prefix_cb (o : Byte) : decode true [0xCB#8, o] = .ok (decodeCb o, []) :=
  decode_cons (operands := [o]) rfl []

theorem exists_reg_of_zField_ne_six (ho : zField o ≠ 6) : ∃ r, opnd8OfCode (zField o) = .reg r := by
  cases hz : opnd8OfCode (zField o) with
  | reg r => exact ⟨r, rfl⟩
  | atHL => exact absurd (eq_six_of_opnd8OfCode (zField_lt o) hz) ho

/-- A CB opcode whose operand is a register makes no access, so its rule completes; it writes that register and F at
most. -/
theorem runCbOpcode_reg {r : Reg8} (hr : opnd8OfCode (zField o) = .reg r) (s : State) :
    ∃ t, runCbOpcode o s = .next t ∧ t.pc = s.pc ∧ t.mem = s.mem ∧ t.ie = s.ie := by
  unfold runCbOpcode
  rw [hr]
  split
  · exact ⟨(s.setReg r _).writeFlags _, rfl, setReg_pc s r _, setReg_mem s r _, setReg_ie s r _⟩
  · exact ⟨s.writeFlags _, rfl, rfl, rfl, rfl⟩
  · exact ⟨s.setReg r _, rfl, setReg_pc s r _, setReg_mem s r _, setReg_ie s r _⟩
  · exact ⟨s.setReg r _, rfl, setReg_pc s r _, setReg_mem s r _, setReg_ie s r _⟩

end

/-- Settles O9: the byte at `pc_next` is fetched only when `CB_ENABLED` is true, and the rule that it selects is the
meaning of the instruction that the decoder reads. -/
theorem prefixByteSelectsCbMap : Obligations.PrefixByteSelectsCbMap := by
  refine ⟨fun s hm hcb hop => step_prefixDisabled hm hop hcb, fun s hcb => exec_prefix_cb_of_disabled hcb,
    fun s e hcb he => exec_prefix_cb_of_fetch_error hcb he, fun s o i hcb ho hd => ?selected,
    fun s o hcb ho hreg => ?register⟩
  case selected =>
    obtain rfl : decodeCb o = i := by simpa using (decode_prefix_cb o).symm.trans hd
    exact (exec_prefix_cb_of_fetch hcb ho).trans (runCbOpcode_eq (s := { s with pc := s.pc + 1#16 }) hcb o)
  case register =>
    obtain ⟨r, hr⟩ := exists_reg_of_zField_ne_six hreg
    rw [exec_prefix_cb_of_fetch hcb ho]
    exact runCbOpcode_reg hr _

/-! ## The undefined opcodes (R182) -/

/-- Settles O8: the opcode byte is the encoding of the undefined instruction that the step runs. -/
theorem undefinedOpcodesFault : Obligations.UndefinedOpcodesFault := by
  refine ⟨fun s op hm hop hread => step_undefinedOpcode hm hread hop, fun s => ?_⟩
  and_intros <;> exact exec_undefinedOpcode rfl s

/-! ## The system instructions and the launch state -/

/-- Settles O48: each of the five writes the mode or IME, or nothing, and makes no access. -/
theorem systemInstructions : Obligations.SystemInstructions :=
  fun _ _ => ⟨⟨rfl, rfl⟩, ⟨rfl, rfl⟩, ⟨rfl, rfl⟩, ⟨rfl, rfl⟩, ⟨rfl, rfl⟩⟩

/-- Settles O49: a launch takes its parameters field by field and masks F. -/
theorem launchState : Obligations.LaunchState :=
  fun _ => rfl

end Sys2Proof.Machine
